-- ==== Sys2Proof/Word.lean ====
section
/-! DEFINITION. The word types of the spec (00_scope.md R7, R9). -/

namespace Sys2Proof

/-- An unsigned 8-bit value, 0 to 0xFF (R9). -/
abbrev Byte := BitVec 8

/-- An unsigned 16-bit value, 0 to 0xFFFF: a register pair, an address (R9). -/
abbrev Word := BitVec 16

end Sys2Proof
end

