-- ==== Sys2Proof/Machine/Bits.lean ====
section
/-! DEFINITION. Byte order, bit fields and sign extension (00_scope.md R9). -/

namespace Sys2Proof.Machine

/-- `hi:lo`, concatenation (R9). -/
def word (hi lo : Byte) : Word := BitVec.append hi lo

/-- `w[15:8]` (R9). -/
def hiByte (w : Word) : Byte := w.extractLsb' 8 8

/-- `w[7:0]` (R9). -/
def loByte (w : Word) : Byte := w.extractLsb' 0 8

/-- `sext_16` (R9): bit 7 copied into bits 15 to 8. -/
def sext16 (v : Byte) : Word := v.signExtend 16

/-- `0xFF00 + n`, an address of page 0xFF (30_encoding.md R126). -/
def pageFF (n : Byte) : Word := word 0xFF n

/-- A boolean used as a number (R9). -/
def bitByte (v : Bool) : Byte := if v then 1 else 0

/-- Bits 5 to 3 of an opcode byte, the field y (30_encoding.md R121). -/
def fieldY (op : Byte) : Nat := op.toNat / 8 % 8

/-- Bits 2 to 0 of an opcode byte, the field z (30_encoding.md R121). -/
def fieldZ (op : Byte) : Nat := op.toNat % 8

end Sys2Proof.Machine
end

