-- ==== Sys2Proof/Config.lean ====
section
/-! DEFINITION. The parameters of 00_scope.md R8: the choices of the default instance, and the free values.
A free value is an `opaque` constant with no body, so nothing can be proved of it. -/

namespace Sys2Proof

/-- How HALT is given meaning (47_system.md R411). -/
inductive HaltMode where
  | latch
  | refuse
deriving DecidableEq, Repr

/-- How STOP is given meaning (47_system.md R412). -/
inductive StopMode where
  | nop
  | refuse
deriving DecidableEq, Repr

/-- `OP_DI` (R8, R168): the opcode byte of "disable interrupts". -/
def Config.opDI : Byte := 0xF3

/-- `OP_EI` (R8, R168): the opcode byte of "enable interrupts". -/
def Config.opEI : Byte := 0xFB

/-- `HALT_MODE`, the spec's default (R411). -/
def Config.haltMode : HaltMode := .latch

/-- `STOP_MODE`. DESIGN CHOICE (log 4), unsafe: R412 lets a model "that must go on" take `nop`; the spec's own
default is `refuse`. -/
def Config.stopMode : StopMode := .nop

/-- `EXTRAM_WRITE_DELEGATED`, the spec's default (20_memory.md R78). -/
def Config.extramWriteDelegated : Bool := false

/-- `ClockFreq`, the spec's default `v -> v[1:0]` (20_memory.md R79); only equality of two results is used. -/
def Config.clockFreq (v : Byte) : BitVec 2 := v.extractLsb' 0 2

/-- `HOST_WRITABLE`, the spec's default 0xFF00 to 0xFF7F (60_exceptions.md R461). -/
def Config.hostWritable (a : Word) : Bool := decide (0xFF00 ≤ a.toNat ∧ a.toNat ≤ 0xFF7F)

/-- FREE VALUE: `ROMLength`, the length of the cartridge's image (20_memory.md R63). -/
opaque Config.romLength : Nat

/-- FREE VALUE: `ReadRom`, the cartridge's image, read at power-on only (20_memory.md R64). -/
opaque Config.readRom : Nat → Byte

/-- FREE VALUE: `MEM_INIT_FILL`, the power-on content of the cells the spec gives none (10_state.md R46). -/
opaque Config.memInitFill : Nat → Byte

/-- FREE VALUE: `ReadRomBank`, what the cartridge answers at an address of a delegated range, as a function of
the banking writes made since power-on (newest first) and the address (20_memory.md R65, R66; log 2). -/
opaque Config.readRomBank : List (Word × Byte) → Word → Byte

end Sys2Proof
end

