-- ==== Sys2Proof/Machine/Memory.lean ====
section
/-! DEFINITION. The local array (10_state.md R34) as a list of cells in canonical form, and its power-on content. -/

namespace Sys2Proof.Machine

/-- The first listed value at an address. -/
def cellsGet : List Host.Cell → Nat → Option Byte
  | [], _ => none
  | (k, v) :: rest, a => if k = a then some v else cellsGet rest a

/-- List a value at an address, at its place in rising order. -/
def cellsInsert (a : Nat) (v : Byte) : List Host.Cell → List Host.Cell
  | [] => [(a, v)]
  | (k, w) :: rest =>
    if a < k then (a, v) :: (k, w) :: rest
    else if k = a then (a, v) :: rest
    else (k, w) :: cellsInsert a v rest

/-- Take an address off the list. -/
def cellsErase (a : Nat) : List Host.Cell → List Host.Cell
  | [] => []
  | (k, w) :: rest => if k = a then cellsErase a rest else (k, w) :: cellsErase a rest

/-- Addresses strictly rising from `lo`, all below 2^16. -/
def cellsRising : Nat → List Host.Cell → Bool
  | _, [] => true
  | lo, (k, _) :: rest => decide (lo ≤ k) && decide (k < 0x10000) && cellsRising (k + 1) rest

/-- The array, as the cells written since power-on. -/
abbrev Memory := List Host.Cell

/-- The 32 bytes set at power-on (10_state.md R45). -/
def powerOnIO : List Host.Cell :=
  [(0xFF05, 0x00), (0xFF06, 0x00), (0xFF07, 0x00), (0xFF0F, 0xE1), (0xFF10, 0x80), (0xFF11, 0xBF),
   (0xFF12, 0xF3), (0xFF14, 0xBF), (0xFF16, 0x3F), (0xFF17, 0x00), (0xFF19, 0xBF)] ++
  [(0xFF1A, 0x7F), (0xFF1B, 0xFF), (0xFF1C, 0x9F), (0xFF1E, 0xBF), (0xFF20, 0xFF), (0xFF21, 0x00),
   (0xFF22, 0x00), (0xFF23, 0xBF), (0xFF24, 0x77), (0xFF25, 0xF3), (0xFF26, 0xF1)] ++
  [(0xFF40, 0x91), (0xFF42, 0x00), (0xFF43, 0x00), (0xFF45, 0x00), (0xFF47, 0xFC), (0xFF48, 0xFF),
   (0xFF49, 0xFF), (0xFF4A, 0x00), (0xFF4B, 0x00), (0xFFFF, 0x00)]

/-- What an unlisted address reads as: the power-on value where the spec states one (R45), no value of the
list's own elsewhere (log 1). -/
def powerOnKnown (a : Nat) : Option Byte := cellsGet powerOnIO a

/-- The power-on content of every cell: the bytes of R45, the cartridge's image (R44), the fill (R46).
The last two are free values. -/
def powerOn (a : Nat) : Byte :=
  match powerOnKnown a with
  | some v => v
  | none => if a < min Config.romLength 0x8000 then Config.readRom a else Config.memInitFill a

namespace Memory

/-- The byte in cell `a` of the array. -/
def read (m : Memory) (a : Nat) : Byte :=
  match cellsGet m a with
  | some v => v
  | none => powerOn a

/-- Store a byte in cell `a`. Storing what an unlisted address reads as removes the entry, so that equal
memories are equal lists. -/
def write (m : Memory) (a : Nat) (v : Byte) : Memory :=
  if powerOnKnown a = some v then cellsErase a m else cellsInsert a v m

/-- Canonical form: addresses strictly rising and in range, no entry equal to what the unlisted address reads as. -/
def wf (m : Memory) : Bool := cellsRising 0 m && m.all fun p => decide (powerOnKnown p.1 ≠ some p.2)

end Memory

end Sys2Proof.Machine
end

