-- ==== Sys2Proof/Machine/State.lean ====
section
/-! DEFINITION. Everything the spec gives the machine, as plain data, and the power-on state (10_state.md). -/

namespace Sys2Proof.Machine

/-- The cartridge collaborator as CORE meets it (20_memory.md R63; log 2). Its state `cs` is held as the banking
writes made since power-on, which is all that CORE ever does to it (R66). -/
structure Cart where
  /-- Cells this cartridge answers in the delegated ranges whatever its bank state (model's own, log 2). -/
  fixed : List Host.Cell
  /-- The banking writes, newest first. -/
  writes : List (Word × Byte)
deriving DecidableEq, Repr

/-- What the host does at one instruction boundary, in the order of 60_exceptions.md R455 (log 6). -/
structure Boundary where
  /-- Bytes of `HOST_WRITABLE` it overwrites (R461). -/
  writes : List (Word × Byte)
  /-- Whether it takes `ServiceInterrupt` if that is enabled (R452). -/
  service : Bool
  /-- Whether it clears Halted if an enabled interrupt is requested (R470). -/
  wake : Bool
deriving DecidableEq, Repr

/-- The whole state of CORE, with its outputs and the inputs still to come. H, L, F, AF, BC and DE are views. -/
structure State where
  /-- A (R20). -/
  a : Byte
  /-- B (R20). -/
  b : Byte
  /-- C (R20). -/
  c : Byte
  /-- D (R20). -/
  d : Byte
  /-- E (R20). -/
  e : Byte
  /-- HL, stored whole (R22). -/
  hl : Word
  /-- SP (R20). -/
  sp : Word
  /-- PC (R25). -/
  pc : Word
  /-- Zero, bit 7 of F (R27). -/
  zero : Bool
  /-- Sub, bit 6 of F (R27). -/
  sub : Bool
  /-- HalfCarry, bit 5 of F (R27). -/
  halfCarry : Bool
  /-- Carry, bit 4 of F (R27). -/
  carry : Bool
  /-- InterruptMaster (R29). -/
  ime : Bool
  /-- PendingInterruptDisabled (R30). -/
  pendingDisable : Bool
  /-- PendingInterruptEnabled (R30). -/
  pendingEnable : Bool
  /-- Halted (R33). -/
  halted : Bool
  /-- The local array (R34). -/
  mem : Memory
  /-- The cartridge (R32). -/
  cart : Cart
  /-- `SetClockFreq` notices, newest first: the byte stored at 0xFF07 at each (R79; log 7). -/
  timerNotices : List Byte
  /-- The clock cost the last Dispatch call returned (R170; log 16). -/
  cycles : Nat
  /-- What the host does at the coming boundaries (log 6). -/
  host : List Boundary
deriving DecidableEq, Repr

/-- The ways the machine stops. -/
inductive Fault where
  /-- `UnassignedOpcode(op, pc0)` (60_exceptions.md R440): raised by dispatching an unassigned opcode byte.
  Fatal and terminal (R442). It carries the opcode byte, the pre-fetch PC and the state at the fault.
  Safe: it is the spec's own fault. -/
  | unassignedOpcode (op : Byte) (pc0 : Word) (at_ : State)
deriving DecidableEq, Repr

/-- Instructions the model gives no meaning. -/
inductive Refusal where
  /-- Raised by an arm of `exec` whose instruction has no meaning yet; no arm is left so. Safe. -/
  | notModelled (mnemonic : String)
  /-- HALT under `HALT_MODE = refuse` (47_system.md R411); `Config.haltMode` is `latch`, so no step raises it. Safe. -/
  | haltRefused
  /-- STOP under `STOP_MODE = refuse` (47_system.md R412); `Config.stopMode` is `nop`, so no step raises it. Safe. -/
  | stopRefused
deriving DecidableEq, Repr

/-- What executing an instruction answers. -/
abbrev Out := Host.Outcome State Fault Refusal

/-- Power-on (10_state.md R42 to R46; 70_reset_and_hazards.md R490). The array lists nothing: `powerOn` holds
its content. Values its source does not give are those of log 6, log 7, log 16 and log 17. -/
def State.reset : State where
  a := 0x01
  b := 0x00
  c := 0x13
  d := 0x00
  e := 0xD8
  hl := 0x014D
  sp := 0xFFFE
  pc := 0x0100
  zero := true
  sub := false
  halfCarry := true
  carry := true
  ime := false
  pendingDisable := false
  pendingEnable := false
  halted := false
  mem := []
  cart := { fixed := [], writes := [] }
  timerNotices := []
  cycles := 0
  host := []

end Sys2Proof.Machine
end

