-- ==== Sys2Proof/Machine/Ops.lean ====
section
/-! DEFINITION. The bus, the DMA unit, the stack (20_memory.md), and taking an interrupt with its return and the
host's other actions (60_exceptions.md). -/

namespace Sys2Proof.Machine.State

/-- `mem[a]`: a cell of the local array, past the bus (00_scope.md R10). -/
def cell (s : State) (a : Word) : Byte := s.mem.read a.toNat

/-- `mem[a] <- v`, past the bus. -/
def storeCell (s : State) (a : Word) (v : Byte) : State := { s with mem := s.mem.write a.toNat v }

/-- The two ranges whose reads go to the cartridge (20_memory.md R67). -/
def delegated (a : Word) : Bool :=
  decide (0x4000 ≤ a.toNat ∧ a.toNat ≤ 0x7FFF) || decide (0xA000 ≤ a.toNat ∧ a.toNat ≤ 0xBFFF)

/-- `CART.ReadRomBank(a)` (R65): one function for both ranges (R68), pure. -/
def readRomBank (s : State) (a : Word) : Byte :=
  match cellsGet s.cart.fixed a.toNat with
  | some v => v
  | none => Config.readRomBank s.cart.writes a

/-- `CART.BankWrite(a, v)` (R66): the cartridge takes note; nothing else of CORE changes. -/
def bankWrite (s : State) (a : Word) (v : Byte) : State :=
  { s with cart := { s.cart with writes := (a, v) :: s.cart.writes } }

/-- `ReadByte(a)` (R67). -/
def readByte (s : State) (a : Word) : Byte :=
  if delegated a then s.readRomBank a else s.cell a

/-- Row 8 of R70, the plain store (R78), with the switch `EXTRAM_WRITE_DELEGATED`. -/
def writePlain (s : State) (a : Word) (v : Byte) : State :=
  if Config.extramWriteDelegated && decide (0xA000 ≤ a.toNat ∧ a.toNat ≤ 0xBFFF) then s.bankWrite a v
  else s.storeCell a v

/-- Row 7 of R70, the timer control register (R79). -/
def writeTimerControl (s : State) (v : Byte) : State :=
  let t := s.storeCell 0xFF07 v
  if Config.clockFreq (s.cell 0xFF07) = Config.clockFreq (t.cell 0xFF07) then t
  else { t with timerNotices := t.cell 0xFF07 :: t.timerNotices }

/-- The rows of R70 that call no other write: all but rows 2 and 6. The write inside an echo write and the
writes of a DMA transfer reach only these rows (R72, R86; log 21). -/
def writeInner (s : State) (a : Word) (v : Byte) : State :=
  if a.toNat < 0x8000 then s.bankWrite a v
  else if 0xFEA0 ≤ a.toNat ∧ a.toNat < 0xFEFF then s
  else if a = 0xFF04 then s.storeCell 0xFF04 0
  else if a = 0xFF44 then s.storeCell 0xFF44 0
  else if a = 0xFF07 then s.writeTimerControl v
  else s.writePlain a v

/-- The first `n` bytes of `DmaTransfer` from `base`, in rising order (R85). -/
def dmaCopy (base : Word) : Nat → State → State
  | 0, s => s
  | n + 1, s =>
    let t := dmaCopy base n s
    t.writeInner (0xFE00 + BitVec.ofNat 16 n) (t.readByte (base + BitVec.ofNat 16 n))

/-- `DmaTransfer(p)` (R85): 160 bytes from page `p` to 0xFE00. -/
def dmaTransfer (s : State) (page : Byte) : State := dmaCopy (word page 0) 0xA0 s

/-- `WriteByte(a, v)`: the eight rows of R70 in their order, the first that matches applied and no other. -/
def writeByte (s : State) (a : Word) (v : Byte) : State :=
  if a.toNat < 0x8000 then s.bankWrite a v
  else if 0xE000 ≤ a.toNat ∧ a.toNat < 0xFE00 then (s.storeCell a v).writeInner (a - 0x2000) v
  else if 0xFEA0 ≤ a.toNat ∧ a.toNat < 0xFEFF then s
  else if a = 0xFF04 then s.storeCell 0xFF04 0
  else if a = 0xFF44 then s.storeCell 0xFF44 0
  else if a = 0xFF46 then s.dmaTransfer v
  else if a = 0xFF07 then s.writeTimerControl v
  else s.writePlain a v

/-- `MemRead(a, 2)` (R90): low byte first, at the lower address. -/
def readWord (s : State) (a : Word) : Word := word (s.readByte (a + 1)) (s.readByte a)

/-- `MemWrite(a, 2, w)` (R91): low byte first, at the lower address. -/
def writeWord (s : State) (a : Word) (w : Word) : State :=
  (s.writeByte a (loByte w)).writeByte (a + 1) (hiByte w)

/-- One half of `StackPush` (R82): decrement SP, write a byte there. -/
def pushByte (s : State) (v : Byte) : State :=
  let t := { s with sp := s.sp - 1 }
  t.writeByte t.sp v

/-- `StackPush(w)` (R82): high byte first. -/
def stackPush (s : State) (w : Word) : State := (s.pushByte (hiByte w)).pushByte (loByte w)

/-- What `StackPop()` returns (R83). -/
def stackTop (s : State) : Word := s.readWord s.sp

/-- What `StackPop()` does to the state (R83): SP moves up by 2. -/
def stackDrop (s : State) : State := { s with sp := s.sp + 2 }

/-- The requested and enabled interrupts, `IF & IE & 0x1F` (60_exceptions.md R450, R470). -/
def pendingMask (s : State) : Byte := s.cell 0xFF0F &&& s.cell 0xFFFF &&& 0x1F

/-- The lowest set bit of a byte of five bits (R451): lower bits are served first. -/
def lowestBit (m : Byte) : Nat :=
  if m.getLsbD 0 then 0 else if m.getLsbD 1 then 1 else if m.getLsbD 2 then 2 else if m.getLsbD 3 then 3 else 4

/-- TAKING AN EXCEPTION: the entry of interrupt `i`, the body of `ServiceInterrupt` (R452): InterruptMaster off,
the request bit cleared in the array, PC pushed through the bus, PC at 0x0040 + 8 i (R451), Halted lifted. -/
def takeInterrupt (s : State) (i : Nat) : State :=
  let t := { s with ime := false }
  let t := t.storeCell 0xFF0F (t.cell 0xFF0F &&& ~~~(1#8 <<< i))
  let t := t.stackPush t.pc
  { t with pc := 0x0040 + BitVec.ofNat 16 (8 * i), halted := false }

/-- THE RETURN FROM AN EXCEPTION, the handler of RETI (46_control.md R388; 60_exceptions.md R454): PC popped,
InterruptMaster on at once, nothing else restored. -/
def returnFromInterrupt (s : State) : State := { s.stackDrop with pc := s.stackTop, ime := true }

/-- `ServiceInterrupt` (R452): enabled when InterruptMaster is true and an interrupt is pending; the lowest is
taken. Where it is not enabled the host cannot take it. -/
def serviceInterrupt (s : State) : State :=
  if s.ime && decide (s.pendingMask ≠ 0) then s.takeInterrupt (lowestBit s.pendingMask) else s

/-- A host write (R461): a byte of `HOST_WRITABLE`, directly into the array; no other byte can be written so. -/
def hostWrite (s : State) (p : Word × Byte) : State :=
  if Config.hostWritable p.1 then s.storeCell p.1 p.2 else s

/-- The host clears Halted (R470), whatever InterruptMaster is, where an enabled interrupt is requested. -/
def wakeFromHalt (s : State) : State :=
  if s.halted && decide (s.pendingMask ≠ 0) then { s with halted := false } else s

/-- The host's part of one instruction boundary, in the order of R455. -/
def atBoundary (s : State) (bd : Boundary) : State :=
  let t := bd.writes.foldl hostWrite s
  let t := if bd.service then t.serviceInterrupt else t
  if bd.wake then t.wakeFromHalt else t

/-- A boundary at which the host writes nothing and services nothing, and wakes a halted core when it may. -/
def quietBoundary : Boundary := { writes := [], service := false, wake := true }

/-- What the host does at this boundary; quiet where the list has run out (log 6). -/
def nextBoundary (s : State) : Boundary := s.host.headD quietBoundary

/-- The state after the host's part of this boundary. -/
def afterHost (s : State) : State := ({ s with host := s.host.tail } : State).atBoundary s.nextBoundary

end Sys2Proof.Machine.State
end

