-- ==== Sys2Proof/Syntax.lean ====
section
/-! DEFINITION. The operand fields of an instruction (30_encoding.md R122 to R125) and every instruction of
spec/opcode_table.json, one constructor for each mnemonic. -/

namespace Sys2Proof

/-- The 8-bit registers an instruction names (R122). -/
inductive Reg8 where
  | b
  | c
  | d
  | e
  | h
  | l
  | a
deriving DecidableEq, Repr

/-- The 8-bit operand `x[r]` (R122): a register, or the byte at HL, written `(HL)`. -/
inductive Operand8 where
  | reg (r : Reg8)
  | memHl
deriving DecidableEq, Repr

/-- The register pairs `xx[p]` of loads and arithmetic (R123). -/
inductive Reg16 where
  | bc
  | de
  | hl
  | sp
deriving DecidableEq, Repr

/-- The register pairs `xx2[p]` of PUSH and POP (R123). -/
inductive StackReg where
  | bc
  | de
  | hl
  | af
deriving DecidableEq, Repr

/-- The conditions `cc` (R124). -/
inductive Cond where
  | nz
  | z
  | nc
  | c
deriving DecidableEq, Repr

/-- The instructions of spec/opcode_table.json, each with its opcode byte and assembler text. Operand bytes are
arguments: `n` a byte, `e` a displacement byte, `w` a word. `prefixCb` is the row PREFIX CB, which is no
instruction of its own (47_system.md R415; log 14); `unassigned` stands for the eleven UNASSIGNED rows (log 15). The constructors with operands come first: Lean's
runtime has a limit on their number. -/
inductive Instr where
  | ldBcD16 (w : Word) -- 01 LD BC,d16
  | ldBD8 (n : Byte) -- 06 LD B,d8
  | ldMemA16Sp (w : Word) -- 08 LD (a16),SP
  | ldCD8 (n : Byte) -- 0E LD C,d8
  | stop (n : Byte) -- 10 STOP
  | ldDeD16 (w : Word) -- 11 LD DE,d16
  | ldDD8 (n : Byte) -- 16 LD D,d8
  | jrE8 (e : Byte) -- 18 JR e8
  | ldED8 (n : Byte) -- 1E LD E,d8
  | jrNzE8 (e : Byte) -- 20 JR NZ,e8
  | ldHlD16 (w : Word) -- 21 LD HL,d16
  | ldHD8 (n : Byte) -- 26 LD H,d8
  | jrZE8 (e : Byte) -- 28 JR Z,e8
  | ldLD8 (n : Byte) -- 2E LD L,d8
  | jrNcE8 (e : Byte) -- 30 JR NC,e8
  | ldSpD16 (w : Word) -- 31 LD SP,d16
  | ldMemHlD8 (n : Byte) -- 36 LD (HL),d8
  | jrCE8 (e : Byte) -- 38 JR C,e8
  | ldAD8 (n : Byte) -- 3E LD A,d8
  | jpNzA16 (w : Word) -- C2 JP NZ,a16
  | jpA16 (w : Word) -- C3 JP a16
  | callNzA16 (w : Word) -- C4 CALL NZ,a16
  | addAD8 (n : Byte) -- C6 ADD A,d8
  | jpZA16 (w : Word) -- CA JP Z,a16
  | prefixCb (op2 : Byte) -- CB PREFIX CB
  | callZA16 (w : Word) -- CC CALL Z,a16
  | callA16 (w : Word) -- CD CALL a16
  | adcAD8 (n : Byte) -- CE ADC A,d8
  | jpNcA16 (w : Word) -- D2 JP NC,a16
  | unassigned (op : Byte) -- D3 DB DD E3 E4 EB EC ED F4 FC FD UNASSIGNED
  | callNcA16 (w : Word) -- D4 CALL NC,a16
  | subD8 (n : Byte) -- D6 SUB d8
  | jpCA16 (w : Word) -- DA JP C,a16
  | callCA16 (w : Word) -- DC CALL C,a16
  | sbcAD8 (n : Byte) -- DE SBC A,d8
  | ldhMemA8A (n : Byte) -- E0 LDH (a8),A
  | andD8 (n : Byte) -- E6 AND d8
  | addSpE8 (e : Byte) -- E8 ADD SP,e8
  | ldMemA16A (w : Word) -- EA LD (a16),A
  | xorD8 (n : Byte) -- EE XOR d8
  | ldhAMemA8 (n : Byte) -- F0 LDH A,(a8)
  | orD8 (n : Byte) -- F6 OR d8
  | ldHlSpE8 (e : Byte) -- F8 LD HL,SP+e8
  | ldAMemA16 (w : Word) -- FA LD A,(a16)
  | cpD8 (n : Byte) -- FE CP d8
  | nop -- 00 NOP
  | ldMemBcA -- 02 LD (BC),A
  | incBc -- 03 INC BC
  | incB -- 04 INC B
  | decB -- 05 DEC B
  | rlca -- 07 RLCA
  | addHlBc -- 09 ADD HL,BC
  | ldAMemBc -- 0A LD A,(BC)
  | decBc -- 0B DEC BC
  | incC -- 0C INC C
  | decC -- 0D DEC C
  | rrca -- 0F RRCA
  | ldMemDeA -- 12 LD (DE),A
  | incDe -- 13 INC DE
  | incD -- 14 INC D
  | decD -- 15 DEC D
  | rla -- 17 RLA
  | addHlDe -- 19 ADD HL,DE
  | ldAMemDe -- 1A LD A,(DE)
  | decDe -- 1B DEC DE
  | incE -- 1C INC E
  | decE -- 1D DEC E
  | rra -- 1F RRA
  | ldMemHliA -- 22 LD (HL+),A
  | incHl -- 23 INC HL
  | incH -- 24 INC H
  | decH -- 25 DEC H
  | daa -- 27 DAA
  | addHlHl -- 29 ADD HL,HL
  | ldAMemHli -- 2A LD A,(HL+)
  | decHl -- 2B DEC HL
  | incL -- 2C INC L
  | decL -- 2D DEC L
  | cpl -- 2F CPL
  | ldMemHldA -- 32 LD (HL-),A
  | incSp -- 33 INC SP
  | incMemHl -- 34 INC (HL)
  | decMemHl -- 35 DEC (HL)
  | scf -- 37 SCF
  | addHlSp -- 39 ADD HL,SP
  | ldAMemHld -- 3A LD A,(HL-)
  | decSp -- 3B DEC SP
  | incA -- 3C INC A
  | decA -- 3D DEC A
  | ccf -- 3F CCF
  | ldBB -- 40 LD B,B
  | ldBC -- 41 LD B,C
  | ldBD -- 42 LD B,D
  | ldBE -- 43 LD B,E
  | ldBH -- 44 LD B,H
  | ldBL -- 45 LD B,L
  | ldBMemHl -- 46 LD B,(HL)
  | ldBA -- 47 LD B,A
  | ldCB -- 48 LD C,B
  | ldCC -- 49 LD C,C
  | ldCD -- 4A LD C,D
  | ldCE -- 4B LD C,E
  | ldCH -- 4C LD C,H
  | ldCL -- 4D LD C,L
  | ldCMemHl -- 4E LD C,(HL)
  | ldCA -- 4F LD C,A
  | ldDB -- 50 LD D,B
  | ldDC -- 51 LD D,C
  | ldDD -- 52 LD D,D
  | ldDE -- 53 LD D,E
  | ldDH -- 54 LD D,H
  | ldDL -- 55 LD D,L
  | ldDMemHl -- 56 LD D,(HL)
  | ldDA -- 57 LD D,A
  | ldEB -- 58 LD E,B
  | ldEC -- 59 LD E,C
  | ldED -- 5A LD E,D
  | ldEE -- 5B LD E,E
  | ldEH -- 5C LD E,H
  | ldEL -- 5D LD E,L
  | ldEMemHl -- 5E LD E,(HL)
  | ldEA -- 5F LD E,A
  | ldHB -- 60 LD H,B
  | ldHC -- 61 LD H,C
  | ldHD -- 62 LD H,D
  | ldHE -- 63 LD H,E
  | ldHH -- 64 LD H,H
  | ldHL -- 65 LD H,L
  | ldHMemHl -- 66 LD H,(HL)
  | ldHA -- 67 LD H,A
  | ldLB -- 68 LD L,B
  | ldLC -- 69 LD L,C
  | ldLD -- 6A LD L,D
  | ldLE -- 6B LD L,E
  | ldLH -- 6C LD L,H
  | ldLL -- 6D LD L,L
  | ldLMemHl -- 6E LD L,(HL)
  | ldLA -- 6F LD L,A
  | ldMemHlB -- 70 LD (HL),B
  | ldMemHlC -- 71 LD (HL),C
  | ldMemHlD -- 72 LD (HL),D
  | ldMemHlE -- 73 LD (HL),E
  | ldMemHlH -- 74 LD (HL),H
  | ldMemHlL -- 75 LD (HL),L
  | halt -- 76 HALT
  | ldMemHlA -- 77 LD (HL),A
  | ldAB -- 78 LD A,B
  | ldAC -- 79 LD A,C
  | ldAD -- 7A LD A,D
  | ldAE -- 7B LD A,E
  | ldAH -- 7C LD A,H
  | ldAL -- 7D LD A,L
  | ldAMemHl -- 7E LD A,(HL)
  | ldAA -- 7F LD A,A
  | addAB -- 80 ADD A,B
  | addAC -- 81 ADD A,C
  | addAD -- 82 ADD A,D
  | addAE -- 83 ADD A,E
  | addAH -- 84 ADD A,H
  | addAL -- 85 ADD A,L
  | addAMemHl -- 86 ADD A,(HL)
  | addAA -- 87 ADD A,A
  | adcAB -- 88 ADC A,B
  | adcAC -- 89 ADC A,C
  | adcAD -- 8A ADC A,D
  | adcAE -- 8B ADC A,E
  | adcAH -- 8C ADC A,H
  | adcAL -- 8D ADC A,L
  | adcAMemHl -- 8E ADC A,(HL)
  | adcAA -- 8F ADC A,A
  | subB -- 90 SUB B
  | subC -- 91 SUB C
  | subD -- 92 SUB D
  | subE -- 93 SUB E
  | subH -- 94 SUB H
  | subL -- 95 SUB L
  | subMemHl -- 96 SUB (HL)
  | subA -- 97 SUB A
  | sbcAB -- 98 SBC A,B
  | sbcAC -- 99 SBC A,C
  | sbcAD -- 9A SBC A,D
  | sbcAE -- 9B SBC A,E
  | sbcAH -- 9C SBC A,H
  | sbcAL -- 9D SBC A,L
  | sbcAMemHl -- 9E SBC A,(HL)
  | sbcAA -- 9F SBC A,A
  | andB -- A0 AND B
  | andC -- A1 AND C
  | andD -- A2 AND D
  | andE -- A3 AND E
  | andH -- A4 AND H
  | andL -- A5 AND L
  | andMemHl -- A6 AND (HL)
  | andA -- A7 AND A
  | xorB -- A8 XOR B
  | xorC -- A9 XOR C
  | xorD -- AA XOR D
  | xorE -- AB XOR E
  | xorH -- AC XOR H
  | xorL -- AD XOR L
  | xorMemHl -- AE XOR (HL)
  | xorA -- AF XOR A
  | orB -- B0 OR B
  | orC -- B1 OR C
  | orD -- B2 OR D
  | orE -- B3 OR E
  | orH -- B4 OR H
  | orL -- B5 OR L
  | orMemHl -- B6 OR (HL)
  | orA -- B7 OR A
  | cpB -- B8 CP B
  | cpC -- B9 CP C
  | cpD -- BA CP D
  | cpE -- BB CP E
  | cpH -- BC CP H
  | cpL -- BD CP L
  | cpMemHl -- BE CP (HL)
  | cpA -- BF CP A
  | retNz -- C0 RET NZ
  | popBc -- C1 POP BC
  | pushBc -- C5 PUSH BC
  | rst00 -- C7 RST 00H
  | retZ -- C8 RET Z
  | ret -- C9 RET
  | rst08 -- CF RST 08H
  | retNc -- D0 RET NC
  | popDe -- D1 POP DE
  | pushDe -- D5 PUSH DE
  | rst10 -- D7 RST 10H
  | retC -- D8 RET C
  | reti -- D9 RETI
  | rst18 -- DF RST 18H
  | popHl -- E1 POP HL
  | ldMemCA -- E2 LD (C),A
  | pushHl -- E5 PUSH HL
  | rst20 -- E7 RST 20H
  | jpHl -- E9 JP (HL)
  | rst28 -- EF RST 28H
  | popAf -- F1 POP AF
  | ldAMemC -- F2 LD A,(C)
  | di -- F3 DI
  | pushAf -- F5 PUSH AF
  | rst30 -- F7 RST 30H
  | ldSpHl -- F9 LD SP,HL
  | ei -- FB EI
  | rst38 -- FF RST 38H
  | rlcB -- CB 00 RLC B
  | rlcC -- CB 01 RLC C
  | rlcD -- CB 02 RLC D
  | rlcE -- CB 03 RLC E
  | rlcH -- CB 04 RLC H
  | rlcL -- CB 05 RLC L
  | rlcMemHl -- CB 06 RLC (HL)
  | rlcA -- CB 07 RLC A
  | rrcB -- CB 08 RRC B
  | rrcC -- CB 09 RRC C
  | rrcD -- CB 0A RRC D
  | rrcE -- CB 0B RRC E
  | rrcH -- CB 0C RRC H
  | rrcL -- CB 0D RRC L
  | rrcMemHl -- CB 0E RRC (HL)
  | rrcA -- CB 0F RRC A
  | rlB -- CB 10 RL B
  | rlC -- CB 11 RL C
  | rlD -- CB 12 RL D
  | rlE -- CB 13 RL E
  | rlH -- CB 14 RL H
  | rlL -- CB 15 RL L
  | rlMemHl -- CB 16 RL (HL)
  | rlA -- CB 17 RL A
  | rrB -- CB 18 RR B
  | rrC -- CB 19 RR C
  | rrD -- CB 1A RR D
  | rrE -- CB 1B RR E
  | rrH -- CB 1C RR H
  | rrL -- CB 1D RR L
  | rrMemHl -- CB 1E RR (HL)
  | rrA -- CB 1F RR A
  | slaB -- CB 20 SLA B
  | slaC -- CB 21 SLA C
  | slaD -- CB 22 SLA D
  | slaE -- CB 23 SLA E
  | slaH -- CB 24 SLA H
  | slaL -- CB 25 SLA L
  | slaMemHl -- CB 26 SLA (HL)
  | slaA -- CB 27 SLA A
  | sraB -- CB 28 SRA B
  | sraC -- CB 29 SRA C
  | sraD -- CB 2A SRA D
  | sraE -- CB 2B SRA E
  | sraH -- CB 2C SRA H
  | sraL -- CB 2D SRA L
  | sraMemHl -- CB 2E SRA (HL)
  | sraA -- CB 2F SRA A
  | swapB -- CB 30 SWAP B
  | swapC -- CB 31 SWAP C
  | swapD -- CB 32 SWAP D
  | swapE -- CB 33 SWAP E
  | swapH -- CB 34 SWAP H
  | swapL -- CB 35 SWAP L
  | swapMemHl -- CB 36 SWAP (HL)
  | swapA -- CB 37 SWAP A
  | srlB -- CB 38 SRL B
  | srlC -- CB 39 SRL C
  | srlD -- CB 3A SRL D
  | srlE -- CB 3B SRL E
  | srlH -- CB 3C SRL H
  | srlL -- CB 3D SRL L
  | srlMemHl -- CB 3E SRL (HL)
  | srlA -- CB 3F SRL A
  | bit0B -- CB 40 BIT 0,B
  | bit0C -- CB 41 BIT 0,C
  | bit0D -- CB 42 BIT 0,D
  | bit0E -- CB 43 BIT 0,E
  | bit0H -- CB 44 BIT 0,H
  | bit0L -- CB 45 BIT 0,L
  | bit0MemHl -- CB 46 BIT 0,(HL)
  | bit0A -- CB 47 BIT 0,A
  | bit1B -- CB 48 BIT 1,B
  | bit1C -- CB 49 BIT 1,C
  | bit1D -- CB 4A BIT 1,D
  | bit1E -- CB 4B BIT 1,E
  | bit1H -- CB 4C BIT 1,H
  | bit1L -- CB 4D BIT 1,L
  | bit1MemHl -- CB 4E BIT 1,(HL)
  | bit1A -- CB 4F BIT 1,A
  | bit2B -- CB 50 BIT 2,B
  | bit2C -- CB 51 BIT 2,C
  | bit2D -- CB 52 BIT 2,D
  | bit2E -- CB 53 BIT 2,E
  | bit2H -- CB 54 BIT 2,H
  | bit2L -- CB 55 BIT 2,L
  | bit2MemHl -- CB 56 BIT 2,(HL)
  | bit2A -- CB 57 BIT 2,A
  | bit3B -- CB 58 BIT 3,B
  | bit3C -- CB 59 BIT 3,C
  | bit3D -- CB 5A BIT 3,D
  | bit3E -- CB 5B BIT 3,E
  | bit3H -- CB 5C BIT 3,H
  | bit3L -- CB 5D BIT 3,L
  | bit3MemHl -- CB 5E BIT 3,(HL)
  | bit3A -- CB 5F BIT 3,A
  | bit4B -- CB 60 BIT 4,B
  | bit4C -- CB 61 BIT 4,C
  | bit4D -- CB 62 BIT 4,D
  | bit4E -- CB 63 BIT 4,E
  | bit4H -- CB 64 BIT 4,H
  | bit4L -- CB 65 BIT 4,L
  | bit4MemHl -- CB 66 BIT 4,(HL)
  | bit4A -- CB 67 BIT 4,A
  | bit5B -- CB 68 BIT 5,B
  | bit5C -- CB 69 BIT 5,C
  | bit5D -- CB 6A BIT 5,D
  | bit5E -- CB 6B BIT 5,E
  | bit5H -- CB 6C BIT 5,H
  | bit5L -- CB 6D BIT 5,L
  | bit5MemHl -- CB 6E BIT 5,(HL)
  | bit5A -- CB 6F BIT 5,A
  | bit6B -- CB 70 BIT 6,B
  | bit6C -- CB 71 BIT 6,C
  | bit6D -- CB 72 BIT 6,D
  | bit6E -- CB 73 BIT 6,E
  | bit6H -- CB 74 BIT 6,H
  | bit6L -- CB 75 BIT 6,L
  | bit6MemHl -- CB 76 BIT 6,(HL)
  | bit6A -- CB 77 BIT 6,A
  | bit7B -- CB 78 BIT 7,B
  | bit7C -- CB 79 BIT 7,C
  | bit7D -- CB 7A BIT 7,D
  | bit7E -- CB 7B BIT 7,E
  | bit7H -- CB 7C BIT 7,H
  | bit7L -- CB 7D BIT 7,L
  | bit7MemHl -- CB 7E BIT 7,(HL)
  | bit7A -- CB 7F BIT 7,A
  | res0B -- CB 80 RES 0,B
  | res0C -- CB 81 RES 0,C
  | res0D -- CB 82 RES 0,D
  | res0E -- CB 83 RES 0,E
  | res0H -- CB 84 RES 0,H
  | res0L -- CB 85 RES 0,L
  | res0MemHl -- CB 86 RES 0,(HL)
  | res0A -- CB 87 RES 0,A
  | res1B -- CB 88 RES 1,B
  | res1C -- CB 89 RES 1,C
  | res1D -- CB 8A RES 1,D
  | res1E -- CB 8B RES 1,E
  | res1H -- CB 8C RES 1,H
  | res1L -- CB 8D RES 1,L
  | res1MemHl -- CB 8E RES 1,(HL)
  | res1A -- CB 8F RES 1,A
  | res2B -- CB 90 RES 2,B
  | res2C -- CB 91 RES 2,C
  | res2D -- CB 92 RES 2,D
  | res2E -- CB 93 RES 2,E
  | res2H -- CB 94 RES 2,H
  | res2L -- CB 95 RES 2,L
  | res2MemHl -- CB 96 RES 2,(HL)
  | res2A -- CB 97 RES 2,A
  | res3B -- CB 98 RES 3,B
  | res3C -- CB 99 RES 3,C
  | res3D -- CB 9A RES 3,D
  | res3E -- CB 9B RES 3,E
  | res3H -- CB 9C RES 3,H
  | res3L -- CB 9D RES 3,L
  | res3MemHl -- CB 9E RES 3,(HL)
  | res3A -- CB 9F RES 3,A
  | res4B -- CB A0 RES 4,B
  | res4C -- CB A1 RES 4,C
  | res4D -- CB A2 RES 4,D
  | res4E -- CB A3 RES 4,E
  | res4H -- CB A4 RES 4,H
  | res4L -- CB A5 RES 4,L
  | res4MemHl -- CB A6 RES 4,(HL)
  | res4A -- CB A7 RES 4,A
  | res5B -- CB A8 RES 5,B
  | res5C -- CB A9 RES 5,C
  | res5D -- CB AA RES 5,D
  | res5E -- CB AB RES 5,E
  | res5H -- CB AC RES 5,H
  | res5L -- CB AD RES 5,L
  | res5MemHl -- CB AE RES 5,(HL)
  | res5A -- CB AF RES 5,A
  | res6B -- CB B0 RES 6,B
  | res6C -- CB B1 RES 6,C
  | res6D -- CB B2 RES 6,D
  | res6E -- CB B3 RES 6,E
  | res6H -- CB B4 RES 6,H
  | res6L -- CB B5 RES 6,L
  | res6MemHl -- CB B6 RES 6,(HL)
  | res6A -- CB B7 RES 6,A
  | res7B -- CB B8 RES 7,B
  | res7C -- CB B9 RES 7,C
  | res7D -- CB BA RES 7,D
  | res7E -- CB BB RES 7,E
  | res7H -- CB BC RES 7,H
  | res7L -- CB BD RES 7,L
  | res7MemHl -- CB BE RES 7,(HL)
  | res7A -- CB BF RES 7,A
  | set0B -- CB C0 SET 0,B
  | set0C -- CB C1 SET 0,C
  | set0D -- CB C2 SET 0,D
  | set0E -- CB C3 SET 0,E
  | set0H -- CB C4 SET 0,H
  | set0L -- CB C5 SET 0,L
  | set0MemHl -- CB C6 SET 0,(HL)
  | set0A -- CB C7 SET 0,A
  | set1B -- CB C8 SET 1,B
  | set1C -- CB C9 SET 1,C
  | set1D -- CB CA SET 1,D
  | set1E -- CB CB SET 1,E
  | set1H -- CB CC SET 1,H
  | set1L -- CB CD SET 1,L
  | set1MemHl -- CB CE SET 1,(HL)
  | set1A -- CB CF SET 1,A
  | set2B -- CB D0 SET 2,B
  | set2C -- CB D1 SET 2,C
  | set2D -- CB D2 SET 2,D
  | set2E -- CB D3 SET 2,E
  | set2H -- CB D4 SET 2,H
  | set2L -- CB D5 SET 2,L
  | set2MemHl -- CB D6 SET 2,(HL)
  | set2A -- CB D7 SET 2,A
  | set3B -- CB D8 SET 3,B
  | set3C -- CB D9 SET 3,C
  | set3D -- CB DA SET 3,D
  | set3E -- CB DB SET 3,E
  | set3H -- CB DC SET 3,H
  | set3L -- CB DD SET 3,L
  | set3MemHl -- CB DE SET 3,(HL)
  | set3A -- CB DF SET 3,A
  | set4B -- CB E0 SET 4,B
  | set4C -- CB E1 SET 4,C
  | set4D -- CB E2 SET 4,D
  | set4E -- CB E3 SET 4,E
  | set4H -- CB E4 SET 4,H
  | set4L -- CB E5 SET 4,L
  | set4MemHl -- CB E6 SET 4,(HL)
  | set4A -- CB E7 SET 4,A
  | set5B -- CB E8 SET 5,B
  | set5C -- CB E9 SET 5,C
  | set5D -- CB EA SET 5,D
  | set5E -- CB EB SET 5,E
  | set5H -- CB EC SET 5,H
  | set5L -- CB ED SET 5,L
  | set5MemHl -- CB EE SET 5,(HL)
  | set5A -- CB EF SET 5,A
  | set6B -- CB F0 SET 6,B
  | set6C -- CB F1 SET 6,C
  | set6D -- CB F2 SET 6,D
  | set6E -- CB F3 SET 6,E
  | set6H -- CB F4 SET 6,H
  | set6L -- CB F5 SET 6,L
  | set6MemHl -- CB F6 SET 6,(HL)
  | set6A -- CB F7 SET 6,A
  | set7B -- CB F8 SET 7,B
  | set7C -- CB F9 SET 7,C
  | set7D -- CB FA SET 7,D
  | set7E -- CB FB SET 7,E
  | set7H -- CB FC SET 7,H
  | set7L -- CB FD SET 7,L
  | set7MemHl -- CB FE SET 7,(HL)
  | set7A -- CB FF SET 7,A
deriving DecidableEq, Repr

end Sys2Proof
end

