-- ==== Sys2Proof/Machine/Operands.lean ====
section
/-! DEFINITION. The views of the registers (10_state.md R22, R23) and every operand form (30_encoding.md R122 to
R126). F and the flags are in Flags.lean. -/

namespace Sys2Proof.Machine.State

/-- H, the high half of HL (R22). -/
def h (s : State) : Byte := hiByte s.hl

/-- L, the low half of HL (R22). -/
def l (s : State) : Byte := loByte s.hl

/-- BC = B:C (R23). -/
def bc (s : State) : Word := word s.b s.c

/-- DE = D:E (R23). -/
def de (s : State) : Word := word s.d s.e

/-- F as the packing of the four flags (R27). -/
def f (s : State) : Byte :=
  bitByte s.zero <<< 7 ||| bitByte s.sub <<< 6 ||| bitByte s.halfCarry <<< 5 ||| bitByte s.carry <<< 4

/-- AF = A:F (R23). -/
def af (s : State) : Word := word s.a s.f

/-- A write of the byte F: bits 7 to 4 into the flags, bits 3 to 0 dropped (R27). -/
def setF (s : State) (v : Byte) : State :=
  { s with zero := v.getLsbD 7, sub := v.getLsbD 6, halfCarry := v.getLsbD 5, carry := v.getLsbD 4 }

/-- An 8-bit register read by name (R10, R22). -/
def reg (s : State) : Reg8 → Byte
  | .a => s.a
  | .b => s.b
  | .c => s.c
  | .d => s.d
  | .e => s.e
  | .h => s.h
  | .l => s.l

/-- An 8-bit register written by name; H and L rewrite one half of HL (R22). -/
def setReg (s : State) (r : Reg8) (v : Byte) : State :=
  match r with
  | .a => { s with a := v }
  | .b => { s with b := v }
  | .c => { s with c := v }
  | .d => { s with d := v }
  | .e => { s with e := v }
  | .h => { s with hl := word v (loByte s.hl) }
  | .l => { s with hl := word (hiByte s.hl) v }

/-- `x[r]` read (R122): a register, or the byte at HL read through the bus. -/
def operand (s : State) : Operand8 → Byte
  | .reg r => s.reg r
  | .memHl => s.readByte s.hl

/-- `x[r] <- v` (R122): a register, or the byte at HL written through the bus. -/
def setOperand (s : State) (x : Operand8) (v : Byte) : State :=
  match x with
  | .reg r => s.setReg r v
  | .memHl => s.writeByte s.hl v

/-- `xx[p]` read (R123). -/
def reg16 (s : State) : Reg16 → Word
  | .bc => s.bc
  | .de => s.de
  | .hl => s.hl
  | .sp => s.sp

/-- `xx[p] <- w` (R123, R23). -/
def setReg16 (s : State) (p : Reg16) (w : Word) : State :=
  match p with
  | .bc => { s with b := hiByte w, c := loByte w }
  | .de => { s with d := hiByte w, e := loByte w }
  | .hl => { s with hl := w }
  | .sp => { s with sp := w }

/-- `xx2[p]` read (R123). -/
def stackReg (s : State) : StackReg → Word
  | .bc => s.bc
  | .de => s.de
  | .hl => s.hl
  | .af => s.af

/-- `xx2[p] <- w` (R123); AF writes A and F (R23, R27). -/
def setStackReg (s : State) (p : StackReg) (w : Word) : State :=
  match p with
  | .bc => { s with b := hiByte w, c := loByte w }
  | .de => { s with d := hiByte w, e := loByte w }
  | .hl => { s with hl := w }
  | .af => ({ s with a := hiByte w } : State).setF (loByte w)

/-- The condition `cc` on the flags as they stand (R124). -/
def holds (s : State) : Cond → Bool
  | .nz => !s.zero
  | .z => s.zero
  | .nc => !s.carry
  | .c => s.carry

end Sys2Proof.Machine.State
end

