-- ==== Sys2Proof/Machine/Flags.lean ====
section
/-! DEFINITION. The flag update and Compare (40_dispatch.md R172, R173), and the results and flags of every
arithmetic, logic, rotate, shift and bit operation (files 43, 44, 45 of spec/): exact integers, narrowed at the end. -/

namespace Sys2Proof.Machine

/-- The low nibble `v & 0x0F` as a number (00_scope.md R9). -/
def lowNibble (v : Byte) : Nat := (v &&& 0x0F).toNat

/-- A boolean used as a number (R9). -/
def bitNat (v : Bool) : Nat := if v then 1 else 0

namespace State

/-- `SetFlags(z, n, h, c)` (R172); an argument `-` of the spec is the flag's own old value here. -/
def setFlags (s : State) (z n hc cy : Bool) : State := { s with zero := z, sub := n, halfCarry := hc, carry := cy }

/-- `Compare(a, b)` (R173). -/
def compare (s : State) (x y : Byte) : State :=
  s.setFlags (x == y) true (decide (lowNibble x > lowNibble y)) (decide (x.toNat > y.toNat))

/-- A + v + k into A with all four flags: ADD (R271, k = 0) and ADC (R273, k = Carry). -/
def addToA (s : State) (v : Byte) (k : Nat) : State :=
  let t := s.a.toNat + v.toNat + k
  let u := s.setFlags (BitVec.ofNat 8 t == 0) false
    (decide (lowNibble s.a + lowNibble v + k > 0x0F)) (decide (t > 0xFF))
  { u with a := BitVec.ofNat 8 t }

/-- A - v - k into A with all four flags: SUB (R275, k = 0) and SBC (R277, k = Carry). -/
def subFromA (s : State) (v : Byte) (k : Nat) : State :=
  let t : Int := (s.a.toNat : Int) - v.toNat - k
  let u := s.setFlags (BitVec.ofInt 8 t == 0) true
    (decide (lowNibble s.a < lowNibble v + k)) (decide (t < 0))
  { u with a := BitVec.ofInt 8 t }

/-- A logic result into A (R279, R281, R283): Zero from it, Sub and Carry off, HalfCarry as given. -/
def logicToA (s : State) (w : Byte) (hc : Bool) : State :=
  ({ s with a := w } : State).setFlags (w == 0) false hc false

/-- The flags of an increment whose result is `v` (R287): Carry kept. -/
def incFlags (s : State) (v : Byte) : State := s.setFlags (v == 0) false (v &&& 0x0F == 0) s.carry

/-- The flags of a decrement whose result is `v` (R289): Carry kept. -/
def decFlags (s : State) (v : Byte) : State := s.setFlags (v == 0) true (v &&& 0x0F == 0x0F) s.carry

/-- DAA (R291). Both tests of the addition branch use the A of before. -/
def decimalAdjust (s : State) : State :=
  let low := s.halfCarry || (!s.sub && decide (lowNibble s.a > 0x09))
  let high := s.carry || (!s.sub && decide (s.a.toNat > 0x99))
  let adj : Byte := (if low then 0x06 else 0) ||| (if high then 0x60 else 0)
  let w := if s.sub then s.a - adj else s.a + adj
  ({ s with a := w } : State).setFlags (w == 0) s.sub false (if s.sub then s.carry else high)

/-- HL + v into HL (R321): HalfCarry out of bit 11, Carry out of bit 15, Zero kept. -/
def addToHl (s : State) (v : Word) : State :=
  let t := s.hl.toNat + v.toNat
  let u := s.setFlags s.zero false
    (decide ((s.hl &&& 0x0FFF).toNat + (v &&& 0x0FFF).toNat > 0x0FFF)) (decide (t > 0xFFFF))
  { u with hl := BitVec.ofNat 16 t }

/-- The flags of SP plus a displacement byte (R244, R324): carries of the unsigned byte addition, Zero and Sub off. -/
def spFlags (s : State) (v : Byte) : State :=
  s.setFlags false false
    (decide ((s.sp &&& 0x000F).toNat + lowNibble v > 0x0F))
    (decide ((s.sp &&& 0x00FF).toNat + v.toNat > 0xFF))

end State

/-- Rotate left (R341, R346): bit 7 into bit 0 and out as the carry. -/
def rotLeft (v : Byte) (_carry : Bool) : Byte × Bool := (v <<< 1 ||| bitByte (v.getLsbD 7), v.getLsbD 7)

/-- Rotate right (R343, R347). -/
def rotRight (v : Byte) (_carry : Bool) : Byte × Bool := (v >>> 1 ||| bitByte (v.getLsbD 0) <<< 7, v.getLsbD 0)

/-- Rotate left through Carry (R342, R348). -/
def rotLeftCarry (v : Byte) (carry : Bool) : Byte × Bool := (v <<< 1 ||| bitByte carry, v.getLsbD 7)

/-- Rotate right through Carry (R344, R349). -/
def rotRightCarry (v : Byte) (carry : Bool) : Byte × Bool := (v >>> 1 ||| bitByte carry <<< 7, v.getLsbD 0)

/-- Shift left (R350). -/
def shiftLeft (v : Byte) (_carry : Bool) : Byte × Bool := (v <<< 1, v.getLsbD 7)

/-- Shift right, bit 7 kept (R351). -/
def shiftRightArith (v : Byte) (_carry : Bool) : Byte × Bool := (v >>> 1 ||| v &&& 0x80, v.getLsbD 0)

/-- Exchange the nibbles (R352): no carry. -/
def swapNibbles (v : Byte) (_carry : Bool) : Byte × Bool := (v <<< 4 ||| v >>> 4, false)

/-- Shift right, bit 7 cleared (R353). -/
def shiftRight (v : Byte) (_carry : Bool) : Byte × Bool := (v >>> 1, v.getLsbD 0)

/-- The rotate or shift the field y of a CB second byte selects (30_encoding.md R125). -/
def rotateOf : Nat → Byte → Bool → Byte × Bool
  | 0 => rotLeft
  | 1 => rotRight
  | 2 => rotLeftCarry
  | 3 => rotRightCarry
  | 4 => shiftLeft
  | 5 => shiftRightArith
  | 6 => swapNibbles
  | _ => shiftRight

/-- `v & ~(1 << b)` (R355). -/
def clearBit (b : Nat) (v : Byte) : Byte := v &&& ~~~(1#8 <<< b)

/-- `v | (1 << b)` (R356). -/
def setBit (b : Nat) (v : Byte) : Byte := v ||| 1#8 <<< b

end Sys2Proof.Machine
end

