-- ==== Sys2Proof/Machine/Alu16.lean ====
section
/-! DEFINITION. The 16-bit arithmetic (44_alu16.md). -/

namespace Sys2Proof.Machine

/-- `xx[p] <- xx[p] + k` with no flag (R322, R323). -/
def step16 (p : Reg16) (k : Word) (s : State) : State := s.setReg16 p (s.reg16 p + k)

/-- `SP <- SP + sext_16(e)` with the flags of the byte addition (R324). -/
def addSp (e : Byte) (s : State) : State :=
  let t := s.spFlags e
  { t with sp := s.sp + sext16 e }

-- R321
def execAddHlBc (s : State) : Out := .next (s.addToHl (s.reg16 .bc))
def execAddHlDe (s : State) : Out := .next (s.addToHl (s.reg16 .de))
def execAddHlHl (s : State) : Out := .next (s.addToHl (s.reg16 .hl))
def execAddHlSp (s : State) : Out := .next (s.addToHl (s.reg16 .sp))

-- R322
def execIncBc (s : State) : Out := .next (step16 .bc 1 s)
def execIncDe (s : State) : Out := .next (step16 .de 1 s)
def execIncHl (s : State) : Out := .next (step16 .hl 1 s)
def execIncSp (s : State) : Out := .next (step16 .sp 1 s)

-- R323
def execDecBc (s : State) : Out := .next (step16 .bc (-1) s)
def execDecDe (s : State) : Out := .next (step16 .de (-1) s)
def execDecHl (s : State) : Out := .next (step16 .hl (-1) s)
def execDecSp (s : State) : Out := .next (step16 .sp (-1) s)

-- R324
def execAddSpE8 (e : Byte) (s : State) : Out := .next (addSp e s)

end Sys2Proof.Machine
end

