-- ==== Sys2Proof/Machine/Alu8.lean ====
section
/-! DEFINITION. The 8-bit arithmetic and logic (43_alu8.md). -/

namespace Sys2Proof.Machine

/-- ADD (R271, R272). -/
def add8 (v : Byte) (s : State) : State := s.addToA v 0

/-- ADC (R273, R274): the incoming Carry is read first. -/
def adc8 (v : Byte) (s : State) : State := s.addToA v (bitNat s.carry)

/-- SUB (R275, R276). -/
def sub8 (v : Byte) (s : State) : State := s.subFromA v 0

/-- SBC (R277, R278): the incoming Carry is read first. -/
def sbc8 (v : Byte) (s : State) : State := s.subFromA v (bitNat s.carry)

/-- AND (R279, R280). -/
def and8 (v : Byte) (s : State) : State := s.logicToA (s.a &&& v) true

/-- XOR (R281, R282). -/
def xor8 (v : Byte) (s : State) : State := s.logicToA (s.a ^^^ v) false

/-- OR (R283, R284). -/
def or8 (v : Byte) (s : State) : State := s.logicToA (s.a ||| v) false

/-- CP (R285, R286): `Compare(s, A)`, the operand first (40_dispatch.md R174; log 20). -/
def cp8 (v : Byte) (s : State) : State := s.compare v s.a

/-- INC on an 8-bit operand (R287, R288): read, write back, then the flags of the value computed. -/
def inc8 (x : Operand8) (s : State) : State :=
  let v := s.operand x + 1
  (s.setOperand x v).incFlags v

/-- DEC on an 8-bit operand (R289, R290). -/
def dec8 (x : Operand8) (s : State) : State :=
  let v := s.operand x - 1
  (s.setOperand x v).decFlags v

-- R271
def execAddAB (s : State) : Out := .next (add8 (s.operand (.reg .b)) s)
def execAddAC (s : State) : Out := .next (add8 (s.operand (.reg .c)) s)
def execAddAD (s : State) : Out := .next (add8 (s.operand (.reg .d)) s)
def execAddAE (s : State) : Out := .next (add8 (s.operand (.reg .e)) s)
def execAddAH (s : State) : Out := .next (add8 (s.operand (.reg .h)) s)
def execAddAL (s : State) : Out := .next (add8 (s.operand (.reg .l)) s)
def execAddAMemHl (s : State) : Out := .next (add8 (s.operand .memHl) s)
def execAddAA (s : State) : Out := .next (add8 (s.operand (.reg .a)) s)

-- R272
def execAddAD8 (n : Byte) (s : State) : Out := .next (add8 n s)

-- R273
def execAdcAB (s : State) : Out := .next (adc8 (s.operand (.reg .b)) s)
def execAdcAC (s : State) : Out := .next (adc8 (s.operand (.reg .c)) s)
def execAdcAD (s : State) : Out := .next (adc8 (s.operand (.reg .d)) s)
def execAdcAE (s : State) : Out := .next (adc8 (s.operand (.reg .e)) s)
def execAdcAH (s : State) : Out := .next (adc8 (s.operand (.reg .h)) s)
def execAdcAL (s : State) : Out := .next (adc8 (s.operand (.reg .l)) s)
def execAdcAMemHl (s : State) : Out := .next (adc8 (s.operand .memHl) s)
def execAdcAA (s : State) : Out := .next (adc8 (s.operand (.reg .a)) s)

-- R274
def execAdcAD8 (n : Byte) (s : State) : Out := .next (adc8 n s)

-- R275
def execSubB (s : State) : Out := .next (sub8 (s.operand (.reg .b)) s)
def execSubC (s : State) : Out := .next (sub8 (s.operand (.reg .c)) s)
def execSubD (s : State) : Out := .next (sub8 (s.operand (.reg .d)) s)
def execSubE (s : State) : Out := .next (sub8 (s.operand (.reg .e)) s)
def execSubH (s : State) : Out := .next (sub8 (s.operand (.reg .h)) s)
def execSubL (s : State) : Out := .next (sub8 (s.operand (.reg .l)) s)
def execSubMemHl (s : State) : Out := .next (sub8 (s.operand .memHl) s)
def execSubA (s : State) : Out := .next (sub8 (s.operand (.reg .a)) s)

-- R276
def execSubD8 (n : Byte) (s : State) : Out := .next (sub8 n s)

-- R277
def execSbcAB (s : State) : Out := .next (sbc8 (s.operand (.reg .b)) s)
def execSbcAC (s : State) : Out := .next (sbc8 (s.operand (.reg .c)) s)
def execSbcAD (s : State) : Out := .next (sbc8 (s.operand (.reg .d)) s)
def execSbcAE (s : State) : Out := .next (sbc8 (s.operand (.reg .e)) s)
def execSbcAH (s : State) : Out := .next (sbc8 (s.operand (.reg .h)) s)
def execSbcAL (s : State) : Out := .next (sbc8 (s.operand (.reg .l)) s)
def execSbcAMemHl (s : State) : Out := .next (sbc8 (s.operand .memHl) s)
def execSbcAA (s : State) : Out := .next (sbc8 (s.operand (.reg .a)) s)

-- R278
def execSbcAD8 (n : Byte) (s : State) : Out := .next (sbc8 n s)

-- R279
def execAndB (s : State) : Out := .next (and8 (s.operand (.reg .b)) s)
def execAndC (s : State) : Out := .next (and8 (s.operand (.reg .c)) s)
def execAndD (s : State) : Out := .next (and8 (s.operand (.reg .d)) s)
def execAndE (s : State) : Out := .next (and8 (s.operand (.reg .e)) s)
def execAndH (s : State) : Out := .next (and8 (s.operand (.reg .h)) s)
def execAndL (s : State) : Out := .next (and8 (s.operand (.reg .l)) s)
def execAndMemHl (s : State) : Out := .next (and8 (s.operand .memHl) s)
def execAndA (s : State) : Out := .next (and8 (s.operand (.reg .a)) s)

-- R280
def execAndD8 (n : Byte) (s : State) : Out := .next (and8 n s)

-- R281
def execXorB (s : State) : Out := .next (xor8 (s.operand (.reg .b)) s)
def execXorC (s : State) : Out := .next (xor8 (s.operand (.reg .c)) s)
def execXorD (s : State) : Out := .next (xor8 (s.operand (.reg .d)) s)
def execXorE (s : State) : Out := .next (xor8 (s.operand (.reg .e)) s)
def execXorH (s : State) : Out := .next (xor8 (s.operand (.reg .h)) s)
def execXorL (s : State) : Out := .next (xor8 (s.operand (.reg .l)) s)
def execXorMemHl (s : State) : Out := .next (xor8 (s.operand .memHl) s)
def execXorA (s : State) : Out := .next (xor8 (s.operand (.reg .a)) s)

-- R282
def execXorD8 (n : Byte) (s : State) : Out := .next (xor8 n s)

-- R283
def execOrB (s : State) : Out := .next (or8 (s.operand (.reg .b)) s)
def execOrC (s : State) : Out := .next (or8 (s.operand (.reg .c)) s)
def execOrD (s : State) : Out := .next (or8 (s.operand (.reg .d)) s)
def execOrE (s : State) : Out := .next (or8 (s.operand (.reg .e)) s)
def execOrH (s : State) : Out := .next (or8 (s.operand (.reg .h)) s)
def execOrL (s : State) : Out := .next (or8 (s.operand (.reg .l)) s)
def execOrMemHl (s : State) : Out := .next (or8 (s.operand .memHl) s)
def execOrA (s : State) : Out := .next (or8 (s.operand (.reg .a)) s)

-- R284
def execOrD8 (n : Byte) (s : State) : Out := .next (or8 n s)

-- R285
def execCpB (s : State) : Out := .next (cp8 (s.operand (.reg .b)) s)
def execCpC (s : State) : Out := .next (cp8 (s.operand (.reg .c)) s)
def execCpD (s : State) : Out := .next (cp8 (s.operand (.reg .d)) s)
def execCpE (s : State) : Out := .next (cp8 (s.operand (.reg .e)) s)
def execCpH (s : State) : Out := .next (cp8 (s.operand (.reg .h)) s)
def execCpL (s : State) : Out := .next (cp8 (s.operand (.reg .l)) s)
def execCpMemHl (s : State) : Out := .next (cp8 (s.operand .memHl) s)
def execCpA (s : State) : Out := .next (cp8 (s.operand (.reg .a)) s)

-- R286
def execCpD8 (n : Byte) (s : State) : Out := .next (cp8 n s)

-- R287
def execIncB (s : State) : Out := .next (inc8 (.reg .b) s)
def execIncC (s : State) : Out := .next (inc8 (.reg .c) s)
def execIncD (s : State) : Out := .next (inc8 (.reg .d) s)
def execIncE (s : State) : Out := .next (inc8 (.reg .e) s)
def execIncH (s : State) : Out := .next (inc8 (.reg .h) s)
def execIncL (s : State) : Out := .next (inc8 (.reg .l) s)
def execIncA (s : State) : Out := .next (inc8 (.reg .a) s)

-- R288
def execIncMemHl (s : State) : Out := .next (inc8 .memHl s)

-- R289
def execDecB (s : State) : Out := .next (dec8 (.reg .b) s)
def execDecC (s : State) : Out := .next (dec8 (.reg .c) s)
def execDecD (s : State) : Out := .next (dec8 (.reg .d) s)
def execDecE (s : State) : Out := .next (dec8 (.reg .e) s)
def execDecH (s : State) : Out := .next (dec8 (.reg .h) s)
def execDecL (s : State) : Out := .next (dec8 (.reg .l) s)
def execDecA (s : State) : Out := .next (dec8 (.reg .a) s)

-- R290
def execDecMemHl (s : State) : Out := .next (dec8 .memHl s)

-- R291
def execDaa (s : State) : Out := .next (s.decimalAdjust)

-- R292
def execCpl (s : State) : Out := .next (({ s with a := ~~~s.a } : State).setFlags s.zero true true s.carry)

-- R293
def execScf (s : State) : Out := .next (s.setFlags s.zero false false true)

-- R294
def execCcf (s : State) : Out := .next (s.setFlags s.zero false false (!s.carry))

end Sys2Proof.Machine
end

