-- ==== Sys2Proof/Machine/Control.lean ====
section
/-! DEFINITION. Control transfer (46_control.md). A meaning runs with PC past the whole instruction, so PC is the
return address (R380). -/

namespace Sys2Proof.Machine

/-- `PC <- a` (R381, R383). -/
def jump (a : Word) (s : State) : State := { s with pc := a }

/-- `PC <- PC + sext_16(e)` (R384). -/
def jumpRel (e : Byte) (s : State) : State := { s with pc := s.pc + sext16 e }

/-- `StackPush(PC); PC <- a` (R386, R389). -/
def callTo (a : Word) (s : State) : State :=
  let t := s.stackPush s.pc
  { t with pc := a }

/-- `PC <- StackPop()` (R390). -/
def ret (s : State) : State := { s.stackDrop with pc := s.stackTop }

/-- `if cc: ...` (R382, R385, R387, R391): the condition on the flags as they stand. -/
def ifHolds (cc : Cond) (taken : State → State) (s : State) : State := if s.holds cc then taken s else s

-- R381
def execJpA16 (w : Word) (s : State) : Out := .next (jump w s)

-- R382
def execJpNzA16 (w : Word) (s : State) : Out := .next (ifHolds .nz (jump w) s)
def execJpZA16 (w : Word) (s : State) : Out := .next (ifHolds .z (jump w) s)
def execJpNcA16 (w : Word) (s : State) : Out := .next (ifHolds .nc (jump w) s)
def execJpCA16 (w : Word) (s : State) : Out := .next (ifHolds .c (jump w) s)

-- R383
def execJpHl (s : State) : Out := .next (jump s.hl s)

-- R384
def execJrE8 (e : Byte) (s : State) : Out := .next (jumpRel e s)

-- R385
def execJrNzE8 (e : Byte) (s : State) : Out := .next (ifHolds .nz (jumpRel e) s)
def execJrZE8 (e : Byte) (s : State) : Out := .next (ifHolds .z (jumpRel e) s)
def execJrNcE8 (e : Byte) (s : State) : Out := .next (ifHolds .nc (jumpRel e) s)
def execJrCE8 (e : Byte) (s : State) : Out := .next (ifHolds .c (jumpRel e) s)

-- R386
def execCallA16 (w : Word) (s : State) : Out := .next (callTo w s)

-- R387
def execCallNzA16 (w : Word) (s : State) : Out := .next (ifHolds .nz (callTo w) s)
def execCallZA16 (w : Word) (s : State) : Out := .next (ifHolds .z (callTo w) s)
def execCallNcA16 (w : Word) (s : State) : Out := .next (ifHolds .nc (callTo w) s)
def execCallCA16 (w : Word) (s : State) : Out := .next (ifHolds .c (callTo w) s)

-- R388
def execReti (s : State) : Out := .next (s.returnFromInterrupt)

-- R389
def execRst00 (s : State) : Out := .next (callTo 0x00 s)
def execRst08 (s : State) : Out := .next (callTo 0x08 s)
def execRst10 (s : State) : Out := .next (callTo 0x10 s)
def execRst18 (s : State) : Out := .next (callTo 0x18 s)
def execRst20 (s : State) : Out := .next (callTo 0x20 s)
def execRst28 (s : State) : Out := .next (callTo 0x28 s)
def execRst30 (s : State) : Out := .next (callTo 0x30 s)
def execRst38 (s : State) : Out := .next (callTo 0x38 s)

-- R390
def execRet (s : State) : Out := .next (ret s)

-- R391
def execRetNz (s : State) : Out := .next (ifHolds .nz ret s)
def execRetZ (s : State) : Out := .next (ifHolds .z ret s)
def execRetNc (s : State) : Out := .next (ifHolds .nc ret s)
def execRetC (s : State) : Out := .next (ifHolds .c ret s)

end Sys2Proof.Machine
end

