-- ==== Sys2Proof/Machine/Load16.lean ====
section
/-! DEFINITION. The 16-bit loads, PUSH and POP (42_load16_stack.md). -/

namespace Sys2Proof.Machine

/-- `HL <- SP + sext_16(e)` with the flags of the byte addition (R244). -/
def loadHlSp (e : Byte) (s : State) : State :=
  let t := s.spFlags e
  { t with hl := s.sp + sext16 e }

/-- `StackPush(xx2[p])` (R246). -/
def pushReg (p : StackReg) (s : State) : State := s.stackPush (s.stackReg p)

/-- `xx2[p] <- StackPop()` (R247). -/
def popReg (p : StackReg) (s : State) : State := s.stackDrop.setStackReg p s.stackTop

-- R241
def execLdBcD16 (w : Word) (s : State) : Out := .next (s.setReg16 .bc w)
def execLdDeD16 (w : Word) (s : State) : Out := .next (s.setReg16 .de w)
def execLdHlD16 (w : Word) (s : State) : Out := .next (s.setReg16 .hl w)
def execLdSpD16 (w : Word) (s : State) : Out := .next (s.setReg16 .sp w)

-- R242
def execLdMemA16Sp (w : Word) (s : State) : Out := .next (s.writeWord w s.sp)

-- R243
def execLdSpHl (s : State) : Out := .next ({ s with sp := s.hl })

-- R244
def execLdHlSpE8 (e : Byte) (s : State) : Out := .next (loadHlSp e s)

-- R246
def execPushBc (s : State) : Out := .next (pushReg .bc s)
def execPushDe (s : State) : Out := .next (pushReg .de s)
def execPushHl (s : State) : Out := .next (pushReg .hl s)
def execPushAf (s : State) : Out := .next (pushReg .af s)

-- R247
def execPopBc (s : State) : Out := .next (popReg .bc s)
def execPopDe (s : State) : Out := .next (popReg .de s)
def execPopHl (s : State) : Out := .next (popReg .hl s)
def execPopAf (s : State) : Out := .next (popReg .af s)

end Sys2Proof.Machine
end

