-- ==== Sys2Proof/Machine/Load8.lean ====
section
/-! DEFINITION. The 8-bit loads (41_load8.md). None writes a flag (R200). A meaning runs with PC past the whole
instruction. -/

namespace Sys2Proof.Machine

/-- `x[r] <- x[r']` between registers (R201). -/
def loadReg (dst src : Reg8) (s : State) : State := s.setReg dst (s.reg src)

/-- `x[r] <- ReadByte(a)` (R202, R206, R207, R210, R212, R214). -/
def loadFrom (dst : Reg8) (a : Word) (s : State) : State := s.setReg dst (s.readByte a)

/-- `WriteByte(a, x[r])` (R203, R208, R209, R211, R213, R215). -/
def storeReg (r : Reg8) (a : Word) (s : State) : State := s.writeByte a (s.reg r)

/-- `WriteByte(HL, A); HL <- HL + k` (R216, R218); a write leaves HL alone. -/
def storeAStep (k : Word) (s : State) : State :=
  let t := s.writeByte s.hl s.a
  { t with hl := t.hl + k }

/-- `A <- ReadByte(HL); HL <- HL + k` (R217, R219). -/
def loadAStep (k : Word) (s : State) : State := { s with a := s.readByte s.hl, hl := s.hl + k }

-- R201
def execLdBB (s : State) : Out := .next (loadReg .b .b s)
def execLdBC (s : State) : Out := .next (loadReg .b .c s)
def execLdBD (s : State) : Out := .next (loadReg .b .d s)
def execLdBE (s : State) : Out := .next (loadReg .b .e s)
def execLdBH (s : State) : Out := .next (loadReg .b .h s)
def execLdBL (s : State) : Out := .next (loadReg .b .l s)
def execLdBA (s : State) : Out := .next (loadReg .b .a s)
def execLdCB (s : State) : Out := .next (loadReg .c .b s)
def execLdCC (s : State) : Out := .next (loadReg .c .c s)
def execLdCD (s : State) : Out := .next (loadReg .c .d s)
def execLdCE (s : State) : Out := .next (loadReg .c .e s)
def execLdCH (s : State) : Out := .next (loadReg .c .h s)
def execLdCL (s : State) : Out := .next (loadReg .c .l s)
def execLdCA (s : State) : Out := .next (loadReg .c .a s)
def execLdDB (s : State) : Out := .next (loadReg .d .b s)
def execLdDC (s : State) : Out := .next (loadReg .d .c s)
def execLdDD (s : State) : Out := .next (loadReg .d .d s)
def execLdDE (s : State) : Out := .next (loadReg .d .e s)
def execLdDH (s : State) : Out := .next (loadReg .d .h s)
def execLdDL (s : State) : Out := .next (loadReg .d .l s)
def execLdDA (s : State) : Out := .next (loadReg .d .a s)
def execLdEB (s : State) : Out := .next (loadReg .e .b s)
def execLdEC (s : State) : Out := .next (loadReg .e .c s)
def execLdED (s : State) : Out := .next (loadReg .e .d s)
def execLdEE (s : State) : Out := .next (loadReg .e .e s)
def execLdEH (s : State) : Out := .next (loadReg .e .h s)
def execLdEL (s : State) : Out := .next (loadReg .e .l s)
def execLdEA (s : State) : Out := .next (loadReg .e .a s)
def execLdHB (s : State) : Out := .next (loadReg .h .b s)
def execLdHC (s : State) : Out := .next (loadReg .h .c s)
def execLdHD (s : State) : Out := .next (loadReg .h .d s)
def execLdHE (s : State) : Out := .next (loadReg .h .e s)
def execLdHH (s : State) : Out := .next (loadReg .h .h s)
def execLdHL (s : State) : Out := .next (loadReg .h .l s)
def execLdHA (s : State) : Out := .next (loadReg .h .a s)
def execLdLB (s : State) : Out := .next (loadReg .l .b s)
def execLdLC (s : State) : Out := .next (loadReg .l .c s)
def execLdLD (s : State) : Out := .next (loadReg .l .d s)
def execLdLE (s : State) : Out := .next (loadReg .l .e s)
def execLdLH (s : State) : Out := .next (loadReg .l .h s)
def execLdLL (s : State) : Out := .next (loadReg .l .l s)
def execLdLA (s : State) : Out := .next (loadReg .l .a s)
def execLdAB (s : State) : Out := .next (loadReg .a .b s)
def execLdAC (s : State) : Out := .next (loadReg .a .c s)
def execLdAD (s : State) : Out := .next (loadReg .a .d s)
def execLdAE (s : State) : Out := .next (loadReg .a .e s)
def execLdAH (s : State) : Out := .next (loadReg .a .h s)
def execLdAL (s : State) : Out := .next (loadReg .a .l s)
def execLdAA (s : State) : Out := .next (loadReg .a .a s)

-- R202
def execLdBMemHl (s : State) : Out := .next (loadFrom .b s.hl s)
def execLdCMemHl (s : State) : Out := .next (loadFrom .c s.hl s)
def execLdDMemHl (s : State) : Out := .next (loadFrom .d s.hl s)
def execLdEMemHl (s : State) : Out := .next (loadFrom .e s.hl s)
def execLdHMemHl (s : State) : Out := .next (loadFrom .h s.hl s)
def execLdLMemHl (s : State) : Out := .next (loadFrom .l s.hl s)
def execLdAMemHl (s : State) : Out := .next (loadFrom .a s.hl s)

-- R203
def execLdMemHlB (s : State) : Out := .next (storeReg .b s.hl s)
def execLdMemHlC (s : State) : Out := .next (storeReg .c s.hl s)
def execLdMemHlD (s : State) : Out := .next (storeReg .d s.hl s)
def execLdMemHlE (s : State) : Out := .next (storeReg .e s.hl s)
def execLdMemHlH (s : State) : Out := .next (storeReg .h s.hl s)
def execLdMemHlL (s : State) : Out := .next (storeReg .l s.hl s)
def execLdMemHlA (s : State) : Out := .next (storeReg .a s.hl s)

-- R204
def execLdBD8 (n : Byte) (s : State) : Out := .next (s.setReg .b n)
def execLdCD8 (n : Byte) (s : State) : Out := .next (s.setReg .c n)
def execLdDD8 (n : Byte) (s : State) : Out := .next (s.setReg .d n)
def execLdED8 (n : Byte) (s : State) : Out := .next (s.setReg .e n)
def execLdHD8 (n : Byte) (s : State) : Out := .next (s.setReg .h n)
def execLdLD8 (n : Byte) (s : State) : Out := .next (s.setReg .l n)
def execLdAD8 (n : Byte) (s : State) : Out := .next (s.setReg .a n)

-- R205
def execLdMemHlD8 (n : Byte) (s : State) : Out := .next (s.writeByte s.hl n)

-- R206
def execLdAMemBc (s : State) : Out := .next (loadFrom .a s.bc s)

-- R207
def execLdAMemDe (s : State) : Out := .next (loadFrom .a s.de s)

-- R208
def execLdMemBcA (s : State) : Out := .next (storeReg .a s.bc s)

-- R209
def execLdMemDeA (s : State) : Out := .next (storeReg .a s.de s)

-- R210
def execLdAMemA16 (w : Word) (s : State) : Out := .next (loadFrom .a w s)

-- R211
def execLdMemA16A (w : Word) (s : State) : Out := .next (storeReg .a w s)

-- R212
def execLdhAMemA8 (n : Byte) (s : State) : Out := .next (loadFrom .a (pageFF n) s)

-- R213
def execLdhMemA8A (n : Byte) (s : State) : Out := .next (storeReg .a (pageFF n) s)

-- R214
def execLdAMemC (s : State) : Out := .next (loadFrom .a (pageFF s.c) s)

-- R215
def execLdMemCA (s : State) : Out := .next (storeReg .a (pageFF s.c) s)

-- R216
def execLdMemHliA (s : State) : Out := .next (storeAStep 1 s)

-- R217
def execLdAMemHli (s : State) : Out := .next (loadAStep 1 s)

-- R218
def execLdMemHldA (s : State) : Out := .next (storeAStep (-1) s)

-- R219
def execLdAMemHld (s : State) : Out := .next (loadAStep (-1) s)

end Sys2Proof.Machine
end

