-- ==== Sys2Proof/Decode.lean ====
section
/-! DEFINITION. From bytes to instructions by the opcode map of 30_encoding.md R128 and R130, and back. -/

namespace Sys2Proof

open Sys2Proof.Machine

/-- Why a list of bytes is no instruction: it is empty, or it ends inside one. No opcode byte is without an
entry: the unassigned ones are instructions that fault (47_system.md R416). -/
inductive DecodeError where
  | noBytes
  | truncated (op : Byte)
deriving DecidableEq, Repr

/-- An entry of the opcode map: how many operand bytes follow and what they build (R120, R121). -/
inductive Entry where
  | plain (i : Instr)
  | imm8 (build : Byte → Instr)
  | imm16 (build : Word → Instr)

/-- The instruction of an entry, its operand bytes taken from the two that follow the opcode byte; a 16-bit
operand is little-endian (R126). -/
def Entry.instr : Entry → Byte → Byte → Instr
  | .plain i, _, _ => i
  | .imm8 build, b1, _ => build b1
  | .imm16 build, b1, b2 => build (word b2 b1)

/-- Read an instruction's operand bytes off a list, and give the rest of it. -/
def Entry.read (op : Byte) : Entry → List Byte → Except DecodeError (Instr × List Byte)
  | .plain i, rest => .ok (i, rest)
  | .imm8 build, b1 :: rest => .ok (build b1, rest)
  | .imm16 build, b1 :: b2 :: rest => .ok (build (word b2 b1), rest)
  | .imm8 _, [] => .error (.truncated op)
  | .imm16 _, [] => .error (.truncated op)
  | .imm16 _, [_] => .error (.truncated op)

/-- The extended table, second bytes 0x00 to 0x0F (R130). -/
def cbRow0 : Nat → Instr
  | 0 => .rlcB
  | 1 => .rlcC
  | 2 => .rlcD
  | 3 => .rlcE
  | 4 => .rlcH
  | 5 => .rlcL
  | 6 => .rlcMemHl
  | 7 => .rlcA
  | 8 => .rrcB
  | 9 => .rrcC
  | 10 => .rrcD
  | 11 => .rrcE
  | 12 => .rrcH
  | 13 => .rrcL
  | 14 => .rrcMemHl
  | _ => .rrcA

/-- The extended table, second bytes 0x10 to 0x1F (R130). -/
def cbRow1 : Nat → Instr
  | 0 => .rlB
  | 1 => .rlC
  | 2 => .rlD
  | 3 => .rlE
  | 4 => .rlH
  | 5 => .rlL
  | 6 => .rlMemHl
  | 7 => .rlA
  | 8 => .rrB
  | 9 => .rrC
  | 10 => .rrD
  | 11 => .rrE
  | 12 => .rrH
  | 13 => .rrL
  | 14 => .rrMemHl
  | _ => .rrA

/-- The extended table, second bytes 0x20 to 0x2F (R130). -/
def cbRow2 : Nat → Instr
  | 0 => .slaB
  | 1 => .slaC
  | 2 => .slaD
  | 3 => .slaE
  | 4 => .slaH
  | 5 => .slaL
  | 6 => .slaMemHl
  | 7 => .slaA
  | 8 => .sraB
  | 9 => .sraC
  | 10 => .sraD
  | 11 => .sraE
  | 12 => .sraH
  | 13 => .sraL
  | 14 => .sraMemHl
  | _ => .sraA

/-- The extended table, second bytes 0x30 to 0x3F (R130). -/
def cbRow3 : Nat → Instr
  | 0 => .swapB
  | 1 => .swapC
  | 2 => .swapD
  | 3 => .swapE
  | 4 => .swapH
  | 5 => .swapL
  | 6 => .swapMemHl
  | 7 => .swapA
  | 8 => .srlB
  | 9 => .srlC
  | 10 => .srlD
  | 11 => .srlE
  | 12 => .srlH
  | 13 => .srlL
  | 14 => .srlMemHl
  | _ => .srlA

/-- The extended table, second bytes 0x40 to 0x4F (R130). -/
def cbRow4 : Nat → Instr
  | 0 => .bit0B
  | 1 => .bit0C
  | 2 => .bit0D
  | 3 => .bit0E
  | 4 => .bit0H
  | 5 => .bit0L
  | 6 => .bit0MemHl
  | 7 => .bit0A
  | 8 => .bit1B
  | 9 => .bit1C
  | 10 => .bit1D
  | 11 => .bit1E
  | 12 => .bit1H
  | 13 => .bit1L
  | 14 => .bit1MemHl
  | _ => .bit1A

/-- The extended table, second bytes 0x50 to 0x5F (R130). -/
def cbRow5 : Nat → Instr
  | 0 => .bit2B
  | 1 => .bit2C
  | 2 => .bit2D
  | 3 => .bit2E
  | 4 => .bit2H
  | 5 => .bit2L
  | 6 => .bit2MemHl
  | 7 => .bit2A
  | 8 => .bit3B
  | 9 => .bit3C
  | 10 => .bit3D
  | 11 => .bit3E
  | 12 => .bit3H
  | 13 => .bit3L
  | 14 => .bit3MemHl
  | _ => .bit3A

/-- The extended table, second bytes 0x60 to 0x6F (R130). -/
def cbRow6 : Nat → Instr
  | 0 => .bit4B
  | 1 => .bit4C
  | 2 => .bit4D
  | 3 => .bit4E
  | 4 => .bit4H
  | 5 => .bit4L
  | 6 => .bit4MemHl
  | 7 => .bit4A
  | 8 => .bit5B
  | 9 => .bit5C
  | 10 => .bit5D
  | 11 => .bit5E
  | 12 => .bit5H
  | 13 => .bit5L
  | 14 => .bit5MemHl
  | _ => .bit5A

/-- The extended table, second bytes 0x70 to 0x7F (R130). -/
def cbRow7 : Nat → Instr
  | 0 => .bit6B
  | 1 => .bit6C
  | 2 => .bit6D
  | 3 => .bit6E
  | 4 => .bit6H
  | 5 => .bit6L
  | 6 => .bit6MemHl
  | 7 => .bit6A
  | 8 => .bit7B
  | 9 => .bit7C
  | 10 => .bit7D
  | 11 => .bit7E
  | 12 => .bit7H
  | 13 => .bit7L
  | 14 => .bit7MemHl
  | _ => .bit7A

/-- The extended table, second bytes 0x80 to 0x8F (R130). -/
def cbRow8 : Nat → Instr
  | 0 => .res0B
  | 1 => .res0C
  | 2 => .res0D
  | 3 => .res0E
  | 4 => .res0H
  | 5 => .res0L
  | 6 => .res0MemHl
  | 7 => .res0A
  | 8 => .res1B
  | 9 => .res1C
  | 10 => .res1D
  | 11 => .res1E
  | 12 => .res1H
  | 13 => .res1L
  | 14 => .res1MemHl
  | _ => .res1A

/-- The extended table, second bytes 0x90 to 0x9F (R130). -/
def cbRow9 : Nat → Instr
  | 0 => .res2B
  | 1 => .res2C
  | 2 => .res2D
  | 3 => .res2E
  | 4 => .res2H
  | 5 => .res2L
  | 6 => .res2MemHl
  | 7 => .res2A
  | 8 => .res3B
  | 9 => .res3C
  | 10 => .res3D
  | 11 => .res3E
  | 12 => .res3H
  | 13 => .res3L
  | 14 => .res3MemHl
  | _ => .res3A

/-- The extended table, second bytes 0xA0 to 0xAF (R130). -/
def cbRowA : Nat → Instr
  | 0 => .res4B
  | 1 => .res4C
  | 2 => .res4D
  | 3 => .res4E
  | 4 => .res4H
  | 5 => .res4L
  | 6 => .res4MemHl
  | 7 => .res4A
  | 8 => .res5B
  | 9 => .res5C
  | 10 => .res5D
  | 11 => .res5E
  | 12 => .res5H
  | 13 => .res5L
  | 14 => .res5MemHl
  | _ => .res5A

/-- The extended table, second bytes 0xB0 to 0xBF (R130). -/
def cbRowB : Nat → Instr
  | 0 => .res6B
  | 1 => .res6C
  | 2 => .res6D
  | 3 => .res6E
  | 4 => .res6H
  | 5 => .res6L
  | 6 => .res6MemHl
  | 7 => .res6A
  | 8 => .res7B
  | 9 => .res7C
  | 10 => .res7D
  | 11 => .res7E
  | 12 => .res7H
  | 13 => .res7L
  | 14 => .res7MemHl
  | _ => .res7A

/-- The extended table, second bytes 0xC0 to 0xCF (R130). -/
def cbRowC : Nat → Instr
  | 0 => .set0B
  | 1 => .set0C
  | 2 => .set0D
  | 3 => .set0E
  | 4 => .set0H
  | 5 => .set0L
  | 6 => .set0MemHl
  | 7 => .set0A
  | 8 => .set1B
  | 9 => .set1C
  | 10 => .set1D
  | 11 => .set1E
  | 12 => .set1H
  | 13 => .set1L
  | 14 => .set1MemHl
  | _ => .set1A

/-- The extended table, second bytes 0xD0 to 0xDF (R130). -/
def cbRowD : Nat → Instr
  | 0 => .set2B
  | 1 => .set2C
  | 2 => .set2D
  | 3 => .set2E
  | 4 => .set2H
  | 5 => .set2L
  | 6 => .set2MemHl
  | 7 => .set2A
  | 8 => .set3B
  | 9 => .set3C
  | 10 => .set3D
  | 11 => .set3E
  | 12 => .set3H
  | 13 => .set3L
  | 14 => .set3MemHl
  | _ => .set3A

/-- The extended table, second bytes 0xE0 to 0xEF (R130). -/
def cbRowE : Nat → Instr
  | 0 => .set4B
  | 1 => .set4C
  | 2 => .set4D
  | 3 => .set4E
  | 4 => .set4H
  | 5 => .set4L
  | 6 => .set4MemHl
  | 7 => .set4A
  | 8 => .set5B
  | 9 => .set5C
  | 10 => .set5D
  | 11 => .set5E
  | 12 => .set5H
  | 13 => .set5L
  | 14 => .set5MemHl
  | _ => .set5A

/-- The extended table, second bytes 0xF0 to 0xFF (R130). -/
def cbRowF : Nat → Instr
  | 0 => .set6B
  | 1 => .set6C
  | 2 => .set6D
  | 3 => .set6E
  | 4 => .set6H
  | 5 => .set6L
  | 6 => .set6MemHl
  | 7 => .set6A
  | 8 => .set7B
  | 9 => .set7C
  | 10 => .set7D
  | 11 => .set7E
  | 12 => .set7H
  | 13 => .set7L
  | 14 => .set7MemHl
  | _ => .set7A

/-- `CBTABLE` (R127, R130): the instruction of a byte after 0xCB. -/
def cbTable (op2 : Byte) : Instr :=
  match op2.toNat / 16 with
  | 0 => cbRow0 (op2.toNat % 16)
  | 1 => cbRow1 (op2.toNat % 16)
  | 2 => cbRow2 (op2.toNat % 16)
  | 3 => cbRow3 (op2.toNat % 16)
  | 4 => cbRow4 (op2.toNat % 16)
  | 5 => cbRow5 (op2.toNat % 16)
  | 6 => cbRow6 (op2.toNat % 16)
  | 7 => cbRow7 (op2.toNat % 16)
  | 8 => cbRow8 (op2.toNat % 16)
  | 9 => cbRow9 (op2.toNat % 16)
  | 10 => cbRowA (op2.toNat % 16)
  | 11 => cbRowB (op2.toNat % 16)
  | 12 => cbRowC (op2.toNat % 16)
  | 13 => cbRowD (op2.toNat % 16)
  | 14 => cbRowE (op2.toNat % 16)
  | _ => cbRowF (op2.toNat % 16)

/-- The opcode map, bytes 0x00 to 0x0F (R128). -/
def mainRow0 : Nat → Entry
  | 0 => .plain .nop
  | 1 => .imm16 .ldBcD16
  | 2 => .plain .ldMemBcA
  | 3 => .plain .incBc
  | 4 => .plain .incB
  | 5 => .plain .decB
  | 6 => .imm8 .ldBD8
  | 7 => .plain .rlca
  | 8 => .imm16 .ldMemA16Sp
  | 9 => .plain .addHlBc
  | 10 => .plain .ldAMemBc
  | 11 => .plain .decBc
  | 12 => .plain .incC
  | 13 => .plain .decC
  | 14 => .imm8 .ldCD8
  | _ => .plain .rrca

/-- The opcode map, bytes 0x10 to 0x1F (R128). -/
def mainRow1 : Nat → Entry
  | 0 => .imm8 .stop
  | 1 => .imm16 .ldDeD16
  | 2 => .plain .ldMemDeA
  | 3 => .plain .incDe
  | 4 => .plain .incD
  | 5 => .plain .decD
  | 6 => .imm8 .ldDD8
  | 7 => .plain .rla
  | 8 => .imm8 .jrE8
  | 9 => .plain .addHlDe
  | 10 => .plain .ldAMemDe
  | 11 => .plain .decDe
  | 12 => .plain .incE
  | 13 => .plain .decE
  | 14 => .imm8 .ldED8
  | _ => .plain .rra

/-- The opcode map, bytes 0x20 to 0x2F (R128). -/
def mainRow2 : Nat → Entry
  | 0 => .imm8 .jrNzE8
  | 1 => .imm16 .ldHlD16
  | 2 => .plain .ldMemHliA
  | 3 => .plain .incHl
  | 4 => .plain .incH
  | 5 => .plain .decH
  | 6 => .imm8 .ldHD8
  | 7 => .plain .daa
  | 8 => .imm8 .jrZE8
  | 9 => .plain .addHlHl
  | 10 => .plain .ldAMemHli
  | 11 => .plain .decHl
  | 12 => .plain .incL
  | 13 => .plain .decL
  | 14 => .imm8 .ldLD8
  | _ => .plain .cpl

/-- The opcode map, bytes 0x30 to 0x3F (R128). -/
def mainRow3 : Nat → Entry
  | 0 => .imm8 .jrNcE8
  | 1 => .imm16 .ldSpD16
  | 2 => .plain .ldMemHldA
  | 3 => .plain .incSp
  | 4 => .plain .incMemHl
  | 5 => .plain .decMemHl
  | 6 => .imm8 .ldMemHlD8
  | 7 => .plain .scf
  | 8 => .imm8 .jrCE8
  | 9 => .plain .addHlSp
  | 10 => .plain .ldAMemHld
  | 11 => .plain .decSp
  | 12 => .plain .incA
  | 13 => .plain .decA
  | 14 => .imm8 .ldAD8
  | _ => .plain .ccf

/-- The opcode map, bytes 0x40 to 0x4F (R128). -/
def mainRow4 : Nat → Entry
  | 0 => .plain .ldBB
  | 1 => .plain .ldBC
  | 2 => .plain .ldBD
  | 3 => .plain .ldBE
  | 4 => .plain .ldBH
  | 5 => .plain .ldBL
  | 6 => .plain .ldBMemHl
  | 7 => .plain .ldBA
  | 8 => .plain .ldCB
  | 9 => .plain .ldCC
  | 10 => .plain .ldCD
  | 11 => .plain .ldCE
  | 12 => .plain .ldCH
  | 13 => .plain .ldCL
  | 14 => .plain .ldCMemHl
  | _ => .plain .ldCA

/-- The opcode map, bytes 0x50 to 0x5F (R128). -/
def mainRow5 : Nat → Entry
  | 0 => .plain .ldDB
  | 1 => .plain .ldDC
  | 2 => .plain .ldDD
  | 3 => .plain .ldDE
  | 4 => .plain .ldDH
  | 5 => .plain .ldDL
  | 6 => .plain .ldDMemHl
  | 7 => .plain .ldDA
  | 8 => .plain .ldEB
  | 9 => .plain .ldEC
  | 10 => .plain .ldED
  | 11 => .plain .ldEE
  | 12 => .plain .ldEH
  | 13 => .plain .ldEL
  | 14 => .plain .ldEMemHl
  | _ => .plain .ldEA

/-- The opcode map, bytes 0x60 to 0x6F (R128). -/
def mainRow6 : Nat → Entry
  | 0 => .plain .ldHB
  | 1 => .plain .ldHC
  | 2 => .plain .ldHD
  | 3 => .plain .ldHE
  | 4 => .plain .ldHH
  | 5 => .plain .ldHL
  | 6 => .plain .ldHMemHl
  | 7 => .plain .ldHA
  | 8 => .plain .ldLB
  | 9 => .plain .ldLC
  | 10 => .plain .ldLD
  | 11 => .plain .ldLE
  | 12 => .plain .ldLH
  | 13 => .plain .ldLL
  | 14 => .plain .ldLMemHl
  | _ => .plain .ldLA

/-- The opcode map, bytes 0x70 to 0x7F (R128). -/
def mainRow7 : Nat → Entry
  | 0 => .plain .ldMemHlB
  | 1 => .plain .ldMemHlC
  | 2 => .plain .ldMemHlD
  | 3 => .plain .ldMemHlE
  | 4 => .plain .ldMemHlH
  | 5 => .plain .ldMemHlL
  | 6 => .plain .halt
  | 7 => .plain .ldMemHlA
  | 8 => .plain .ldAB
  | 9 => .plain .ldAC
  | 10 => .plain .ldAD
  | 11 => .plain .ldAE
  | 12 => .plain .ldAH
  | 13 => .plain .ldAL
  | 14 => .plain .ldAMemHl
  | _ => .plain .ldAA

/-- The opcode map, bytes 0x80 to 0x8F (R128). -/
def mainRow8 : Nat → Entry
  | 0 => .plain .addAB
  | 1 => .plain .addAC
  | 2 => .plain .addAD
  | 3 => .plain .addAE
  | 4 => .plain .addAH
  | 5 => .plain .addAL
  | 6 => .plain .addAMemHl
  | 7 => .plain .addAA
  | 8 => .plain .adcAB
  | 9 => .plain .adcAC
  | 10 => .plain .adcAD
  | 11 => .plain .adcAE
  | 12 => .plain .adcAH
  | 13 => .plain .adcAL
  | 14 => .plain .adcAMemHl
  | _ => .plain .adcAA

/-- The opcode map, bytes 0x90 to 0x9F (R128). -/
def mainRow9 : Nat → Entry
  | 0 => .plain .subB
  | 1 => .plain .subC
  | 2 => .plain .subD
  | 3 => .plain .subE
  | 4 => .plain .subH
  | 5 => .plain .subL
  | 6 => .plain .subMemHl
  | 7 => .plain .subA
  | 8 => .plain .sbcAB
  | 9 => .plain .sbcAC
  | 10 => .plain .sbcAD
  | 11 => .plain .sbcAE
  | 12 => .plain .sbcAH
  | 13 => .plain .sbcAL
  | 14 => .plain .sbcAMemHl
  | _ => .plain .sbcAA

/-- The opcode map, bytes 0xA0 to 0xAF (R128). -/
def mainRowA : Nat → Entry
  | 0 => .plain .andB
  | 1 => .plain .andC
  | 2 => .plain .andD
  | 3 => .plain .andE
  | 4 => .plain .andH
  | 5 => .plain .andL
  | 6 => .plain .andMemHl
  | 7 => .plain .andA
  | 8 => .plain .xorB
  | 9 => .plain .xorC
  | 10 => .plain .xorD
  | 11 => .plain .xorE
  | 12 => .plain .xorH
  | 13 => .plain .xorL
  | 14 => .plain .xorMemHl
  | _ => .plain .xorA

/-- The opcode map, bytes 0xB0 to 0xBF (R128). -/
def mainRowB : Nat → Entry
  | 0 => .plain .orB
  | 1 => .plain .orC
  | 2 => .plain .orD
  | 3 => .plain .orE
  | 4 => .plain .orH
  | 5 => .plain .orL
  | 6 => .plain .orMemHl
  | 7 => .plain .orA
  | 8 => .plain .cpB
  | 9 => .plain .cpC
  | 10 => .plain .cpD
  | 11 => .plain .cpE
  | 12 => .plain .cpH
  | 13 => .plain .cpL
  | 14 => .plain .cpMemHl
  | _ => .plain .cpA

/-- The opcode map, bytes 0xC0 to 0xCF (R128). -/
def mainRowC : Nat → Entry
  | 0 => .plain .retNz
  | 1 => .plain .popBc
  | 2 => .imm16 .jpNzA16
  | 3 => .imm16 .jpA16
  | 4 => .imm16 .callNzA16
  | 5 => .plain .pushBc
  | 6 => .imm8 .addAD8
  | 7 => .plain .rst00
  | 8 => .plain .retZ
  | 9 => .plain .ret
  | 10 => .imm16 .jpZA16
  | 11 => .imm8 cbTable
  | 12 => .imm16 .callZA16
  | 13 => .imm16 .callA16
  | 14 => .imm8 .adcAD8
  | _ => .plain .rst08

/-- The opcode map, bytes 0xD0 to 0xDF (R128). -/
def mainRowD : Nat → Entry
  | 0 => .plain .retNc
  | 1 => .plain .popDe
  | 2 => .imm16 .jpNcA16
  | 3 => .plain (.unassigned 0xD3)
  | 4 => .imm16 .callNcA16
  | 5 => .plain .pushDe
  | 6 => .imm8 .subD8
  | 7 => .plain .rst10
  | 8 => .plain .retC
  | 9 => .plain .reti
  | 10 => .imm16 .jpCA16
  | 11 => .plain (.unassigned 0xDB)
  | 12 => .imm16 .callCA16
  | 13 => .plain (.unassigned 0xDD)
  | 14 => .imm8 .sbcAD8
  | _ => .plain .rst18

/-- The opcode map, bytes 0xE0 to 0xEF (R128). -/
def mainRowE : Nat → Entry
  | 0 => .imm8 .ldhMemA8A
  | 1 => .plain .popHl
  | 2 => .plain .ldMemCA
  | 3 => .plain (.unassigned 0xE3)
  | 4 => .plain (.unassigned 0xE4)
  | 5 => .plain .pushHl
  | 6 => .imm8 .andD8
  | 7 => .plain .rst20
  | 8 => .imm8 .addSpE8
  | 9 => .plain .jpHl
  | 10 => .imm16 .ldMemA16A
  | 11 => .plain (.unassigned 0xEB)
  | 12 => .plain (.unassigned 0xEC)
  | 13 => .plain (.unassigned 0xED)
  | 14 => .imm8 .xorD8
  | _ => .plain .rst28

/-- The opcode map, bytes 0xF0 to 0xFF (R128). -/
def mainRowF : Nat → Entry
  | 0 => .imm8 .ldhAMemA8
  | 1 => .plain .popAf
  | 2 => .plain .ldAMemC
  | 3 => .plain .di
  | 4 => .plain (.unassigned 0xF4)
  | 5 => .plain .pushAf
  | 6 => .imm8 .orD8
  | 7 => .plain .rst30
  | 8 => .imm8 .ldHlSpE8
  | 9 => .plain .ldSpHl
  | 10 => .imm16 .ldAMemA16
  | 11 => .plain .ei
  | 12 => .plain (.unassigned 0xFC)
  | 13 => .plain (.unassigned 0xFD)
  | 14 => .imm8 .cpD8
  | _ => .plain .rst38

/-- `OPTABLE` (40_dispatch.md R162), less its costs: the entry of an opcode byte. The entry of 0xCB reads the
second byte and gives that byte's instruction of the extended table (R127). -/
def mainTable (op : Byte) : Entry :=
  match op.toNat / 16 with
  | 0 => mainRow0 (op.toNat % 16)
  | 1 => mainRow1 (op.toNat % 16)
  | 2 => mainRow2 (op.toNat % 16)
  | 3 => mainRow3 (op.toNat % 16)
  | 4 => mainRow4 (op.toNat % 16)
  | 5 => mainRow5 (op.toNat % 16)
  | 6 => mainRow6 (op.toNat % 16)
  | 7 => mainRow7 (op.toNat % 16)
  | 8 => mainRow8 (op.toNat % 16)
  | 9 => mainRow9 (op.toNat % 16)
  | 10 => mainRowA (op.toNat % 16)
  | 11 => mainRowB (op.toNat % 16)
  | 12 => mainRowC (op.toNat % 16)
  | 13 => mainRowD (op.toNat % 16)
  | 14 => mainRowE (op.toNat % 16)
  | _ => mainRowF (op.toNat % 16)

/-- The decoder: the instruction at the head of a list of bytes, and the rest of the list. -/
def decode : List Byte → Except DecodeError (Instr × List Byte)
  | [] => .error .noBytes
  | op :: rest => (mainTable op).read op rest

/-- The decoder on the three bytes from PC on, total: operand bytes the instruction does not have are not
looked at. -/
def decodeAt (op b1 b2 : Byte) : Instr := (mainTable op).instr b1 b2

/-- The bytes of an instruction, lowest address first (R121). -/
def encode : Instr → List Byte
  | .ldBcD16 w => [0x01, loByte w, hiByte w]
  | .ldBD8 n => [0x06, n]
  | .ldMemA16Sp w => [0x08, loByte w, hiByte w]
  | .ldCD8 n => [0x0E, n]
  | .stop n => [0x10, n]
  | .ldDeD16 w => [0x11, loByte w, hiByte w]
  | .ldDD8 n => [0x16, n]
  | .jrE8 e => [0x18, e]
  | .ldED8 n => [0x1E, n]
  | .jrNzE8 e => [0x20, e]
  | .ldHlD16 w => [0x21, loByte w, hiByte w]
  | .ldHD8 n => [0x26, n]
  | .jrZE8 e => [0x28, e]
  | .ldLD8 n => [0x2E, n]
  | .jrNcE8 e => [0x30, e]
  | .ldSpD16 w => [0x31, loByte w, hiByte w]
  | .ldMemHlD8 n => [0x36, n]
  | .jrCE8 e => [0x38, e]
  | .ldAD8 n => [0x3E, n]
  | .jpNzA16 w => [0xC2, loByte w, hiByte w]
  | .jpA16 w => [0xC3, loByte w, hiByte w]
  | .callNzA16 w => [0xC4, loByte w, hiByte w]
  | .addAD8 n => [0xC6, n]
  | .jpZA16 w => [0xCA, loByte w, hiByte w]
  | .prefixCb op2 => [0xCB, op2]
  | .callZA16 w => [0xCC, loByte w, hiByte w]
  | .callA16 w => [0xCD, loByte w, hiByte w]
  | .adcAD8 n => [0xCE, n]
  | .jpNcA16 w => [0xD2, loByte w, hiByte w]
  | .unassigned op => [op]
  | .callNcA16 w => [0xD4, loByte w, hiByte w]
  | .subD8 n => [0xD6, n]
  | .jpCA16 w => [0xDA, loByte w, hiByte w]
  | .callCA16 w => [0xDC, loByte w, hiByte w]
  | .sbcAD8 n => [0xDE, n]
  | .ldhMemA8A n => [0xE0, n]
  | .andD8 n => [0xE6, n]
  | .addSpE8 e => [0xE8, e]
  | .ldMemA16A w => [0xEA, loByte w, hiByte w]
  | .xorD8 n => [0xEE, n]
  | .ldhAMemA8 n => [0xF0, n]
  | .orD8 n => [0xF6, n]
  | .ldHlSpE8 e => [0xF8, e]
  | .ldAMemA16 w => [0xFA, loByte w, hiByte w]
  | .cpD8 n => [0xFE, n]
  | .nop => [0x00]
  | .ldMemBcA => [0x02]
  | .incBc => [0x03]
  | .incB => [0x04]
  | .decB => [0x05]
  | .rlca => [0x07]
  | .addHlBc => [0x09]
  | .ldAMemBc => [0x0A]
  | .decBc => [0x0B]
  | .incC => [0x0C]
  | .decC => [0x0D]
  | .rrca => [0x0F]
  | .ldMemDeA => [0x12]
  | .incDe => [0x13]
  | .incD => [0x14]
  | .decD => [0x15]
  | .rla => [0x17]
  | .addHlDe => [0x19]
  | .ldAMemDe => [0x1A]
  | .decDe => [0x1B]
  | .incE => [0x1C]
  | .decE => [0x1D]
  | .rra => [0x1F]
  | .ldMemHliA => [0x22]
  | .incHl => [0x23]
  | .incH => [0x24]
  | .decH => [0x25]
  | .daa => [0x27]
  | .addHlHl => [0x29]
  | .ldAMemHli => [0x2A]
  | .decHl => [0x2B]
  | .incL => [0x2C]
  | .decL => [0x2D]
  | .cpl => [0x2F]
  | .ldMemHldA => [0x32]
  | .incSp => [0x33]
  | .incMemHl => [0x34]
  | .decMemHl => [0x35]
  | .scf => [0x37]
  | .addHlSp => [0x39]
  | .ldAMemHld => [0x3A]
  | .decSp => [0x3B]
  | .incA => [0x3C]
  | .decA => [0x3D]
  | .ccf => [0x3F]
  | .ldBB => [0x40]
  | .ldBC => [0x41]
  | .ldBD => [0x42]
  | .ldBE => [0x43]
  | .ldBH => [0x44]
  | .ldBL => [0x45]
  | .ldBMemHl => [0x46]
  | .ldBA => [0x47]
  | .ldCB => [0x48]
  | .ldCC => [0x49]
  | .ldCD => [0x4A]
  | .ldCE => [0x4B]
  | .ldCH => [0x4C]
  | .ldCL => [0x4D]
  | .ldCMemHl => [0x4E]
  | .ldCA => [0x4F]
  | .ldDB => [0x50]
  | .ldDC => [0x51]
  | .ldDD => [0x52]
  | .ldDE => [0x53]
  | .ldDH => [0x54]
  | .ldDL => [0x55]
  | .ldDMemHl => [0x56]
  | .ldDA => [0x57]
  | .ldEB => [0x58]
  | .ldEC => [0x59]
  | .ldED => [0x5A]
  | .ldEE => [0x5B]
  | .ldEH => [0x5C]
  | .ldEL => [0x5D]
  | .ldEMemHl => [0x5E]
  | .ldEA => [0x5F]
  | .ldHB => [0x60]
  | .ldHC => [0x61]
  | .ldHD => [0x62]
  | .ldHE => [0x63]
  | .ldHH => [0x64]
  | .ldHL => [0x65]
  | .ldHMemHl => [0x66]
  | .ldHA => [0x67]
  | .ldLB => [0x68]
  | .ldLC => [0x69]
  | .ldLD => [0x6A]
  | .ldLE => [0x6B]
  | .ldLH => [0x6C]
  | .ldLL => [0x6D]
  | .ldLMemHl => [0x6E]
  | .ldLA => [0x6F]
  | .ldMemHlB => [0x70]
  | .ldMemHlC => [0x71]
  | .ldMemHlD => [0x72]
  | .ldMemHlE => [0x73]
  | .ldMemHlH => [0x74]
  | .ldMemHlL => [0x75]
  | .halt => [0x76]
  | .ldMemHlA => [0x77]
  | .ldAB => [0x78]
  | .ldAC => [0x79]
  | .ldAD => [0x7A]
  | .ldAE => [0x7B]
  | .ldAH => [0x7C]
  | .ldAL => [0x7D]
  | .ldAMemHl => [0x7E]
  | .ldAA => [0x7F]
  | .addAB => [0x80]
  | .addAC => [0x81]
  | .addAD => [0x82]
  | .addAE => [0x83]
  | .addAH => [0x84]
  | .addAL => [0x85]
  | .addAMemHl => [0x86]
  | .addAA => [0x87]
  | .adcAB => [0x88]
  | .adcAC => [0x89]
  | .adcAD => [0x8A]
  | .adcAE => [0x8B]
  | .adcAH => [0x8C]
  | .adcAL => [0x8D]
  | .adcAMemHl => [0x8E]
  | .adcAA => [0x8F]
  | .subB => [0x90]
  | .subC => [0x91]
  | .subD => [0x92]
  | .subE => [0x93]
  | .subH => [0x94]
  | .subL => [0x95]
  | .subMemHl => [0x96]
  | .subA => [0x97]
  | .sbcAB => [0x98]
  | .sbcAC => [0x99]
  | .sbcAD => [0x9A]
  | .sbcAE => [0x9B]
  | .sbcAH => [0x9C]
  | .sbcAL => [0x9D]
  | .sbcAMemHl => [0x9E]
  | .sbcAA => [0x9F]
  | .andB => [0xA0]
  | .andC => [0xA1]
  | .andD => [0xA2]
  | .andE => [0xA3]
  | .andH => [0xA4]
  | .andL => [0xA5]
  | .andMemHl => [0xA6]
  | .andA => [0xA7]
  | .xorB => [0xA8]
  | .xorC => [0xA9]
  | .xorD => [0xAA]
  | .xorE => [0xAB]
  | .xorH => [0xAC]
  | .xorL => [0xAD]
  | .xorMemHl => [0xAE]
  | .xorA => [0xAF]
  | .orB => [0xB0]
  | .orC => [0xB1]
  | .orD => [0xB2]
  | .orE => [0xB3]
  | .orH => [0xB4]
  | .orL => [0xB5]
  | .orMemHl => [0xB6]
  | .orA => [0xB7]
  | .cpB => [0xB8]
  | .cpC => [0xB9]
  | .cpD => [0xBA]
  | .cpE => [0xBB]
  | .cpH => [0xBC]
  | .cpL => [0xBD]
  | .cpMemHl => [0xBE]
  | .cpA => [0xBF]
  | .retNz => [0xC0]
  | .popBc => [0xC1]
  | .pushBc => [0xC5]
  | .rst00 => [0xC7]
  | .retZ => [0xC8]
  | .ret => [0xC9]
  | .rst08 => [0xCF]
  | .retNc => [0xD0]
  | .popDe => [0xD1]
  | .pushDe => [0xD5]
  | .rst10 => [0xD7]
  | .retC => [0xD8]
  | .reti => [0xD9]
  | .rst18 => [0xDF]
  | .popHl => [0xE1]
  | .ldMemCA => [0xE2]
  | .pushHl => [0xE5]
  | .rst20 => [0xE7]
  | .jpHl => [0xE9]
  | .rst28 => [0xEF]
  | .popAf => [0xF1]
  | .ldAMemC => [0xF2]
  | .di => [0xF3]
  | .pushAf => [0xF5]
  | .rst30 => [0xF7]
  | .ldSpHl => [0xF9]
  | .ei => [0xFB]
  | .rst38 => [0xFF]
  | .rlcB => [0xCB, 0x00]
  | .rlcC => [0xCB, 0x01]
  | .rlcD => [0xCB, 0x02]
  | .rlcE => [0xCB, 0x03]
  | .rlcH => [0xCB, 0x04]
  | .rlcL => [0xCB, 0x05]
  | .rlcMemHl => [0xCB, 0x06]
  | .rlcA => [0xCB, 0x07]
  | .rrcB => [0xCB, 0x08]
  | .rrcC => [0xCB, 0x09]
  | .rrcD => [0xCB, 0x0A]
  | .rrcE => [0xCB, 0x0B]
  | .rrcH => [0xCB, 0x0C]
  | .rrcL => [0xCB, 0x0D]
  | .rrcMemHl => [0xCB, 0x0E]
  | .rrcA => [0xCB, 0x0F]
  | .rlB => [0xCB, 0x10]
  | .rlC => [0xCB, 0x11]
  | .rlD => [0xCB, 0x12]
  | .rlE => [0xCB, 0x13]
  | .rlH => [0xCB, 0x14]
  | .rlL => [0xCB, 0x15]
  | .rlMemHl => [0xCB, 0x16]
  | .rlA => [0xCB, 0x17]
  | .rrB => [0xCB, 0x18]
  | .rrC => [0xCB, 0x19]
  | .rrD => [0xCB, 0x1A]
  | .rrE => [0xCB, 0x1B]
  | .rrH => [0xCB, 0x1C]
  | .rrL => [0xCB, 0x1D]
  | .rrMemHl => [0xCB, 0x1E]
  | .rrA => [0xCB, 0x1F]
  | .slaB => [0xCB, 0x20]
  | .slaC => [0xCB, 0x21]
  | .slaD => [0xCB, 0x22]
  | .slaE => [0xCB, 0x23]
  | .slaH => [0xCB, 0x24]
  | .slaL => [0xCB, 0x25]
  | .slaMemHl => [0xCB, 0x26]
  | .slaA => [0xCB, 0x27]
  | .sraB => [0xCB, 0x28]
  | .sraC => [0xCB, 0x29]
  | .sraD => [0xCB, 0x2A]
  | .sraE => [0xCB, 0x2B]
  | .sraH => [0xCB, 0x2C]
  | .sraL => [0xCB, 0x2D]
  | .sraMemHl => [0xCB, 0x2E]
  | .sraA => [0xCB, 0x2F]
  | .swapB => [0xCB, 0x30]
  | .swapC => [0xCB, 0x31]
  | .swapD => [0xCB, 0x32]
  | .swapE => [0xCB, 0x33]
  | .swapH => [0xCB, 0x34]
  | .swapL => [0xCB, 0x35]
  | .swapMemHl => [0xCB, 0x36]
  | .swapA => [0xCB, 0x37]
  | .srlB => [0xCB, 0x38]
  | .srlC => [0xCB, 0x39]
  | .srlD => [0xCB, 0x3A]
  | .srlE => [0xCB, 0x3B]
  | .srlH => [0xCB, 0x3C]
  | .srlL => [0xCB, 0x3D]
  | .srlMemHl => [0xCB, 0x3E]
  | .srlA => [0xCB, 0x3F]
  | .bit0B => [0xCB, 0x40]
  | .bit0C => [0xCB, 0x41]
  | .bit0D => [0xCB, 0x42]
  | .bit0E => [0xCB, 0x43]
  | .bit0H => [0xCB, 0x44]
  | .bit0L => [0xCB, 0x45]
  | .bit0MemHl => [0xCB, 0x46]
  | .bit0A => [0xCB, 0x47]
  | .bit1B => [0xCB, 0x48]
  | .bit1C => [0xCB, 0x49]
  | .bit1D => [0xCB, 0x4A]
  | .bit1E => [0xCB, 0x4B]
  | .bit1H => [0xCB, 0x4C]
  | .bit1L => [0xCB, 0x4D]
  | .bit1MemHl => [0xCB, 0x4E]
  | .bit1A => [0xCB, 0x4F]
  | .bit2B => [0xCB, 0x50]
  | .bit2C => [0xCB, 0x51]
  | .bit2D => [0xCB, 0x52]
  | .bit2E => [0xCB, 0x53]
  | .bit2H => [0xCB, 0x54]
  | .bit2L => [0xCB, 0x55]
  | .bit2MemHl => [0xCB, 0x56]
  | .bit2A => [0xCB, 0x57]
  | .bit3B => [0xCB, 0x58]
  | .bit3C => [0xCB, 0x59]
  | .bit3D => [0xCB, 0x5A]
  | .bit3E => [0xCB, 0x5B]
  | .bit3H => [0xCB, 0x5C]
  | .bit3L => [0xCB, 0x5D]
  | .bit3MemHl => [0xCB, 0x5E]
  | .bit3A => [0xCB, 0x5F]
  | .bit4B => [0xCB, 0x60]
  | .bit4C => [0xCB, 0x61]
  | .bit4D => [0xCB, 0x62]
  | .bit4E => [0xCB, 0x63]
  | .bit4H => [0xCB, 0x64]
  | .bit4L => [0xCB, 0x65]
  | .bit4MemHl => [0xCB, 0x66]
  | .bit4A => [0xCB, 0x67]
  | .bit5B => [0xCB, 0x68]
  | .bit5C => [0xCB, 0x69]
  | .bit5D => [0xCB, 0x6A]
  | .bit5E => [0xCB, 0x6B]
  | .bit5H => [0xCB, 0x6C]
  | .bit5L => [0xCB, 0x6D]
  | .bit5MemHl => [0xCB, 0x6E]
  | .bit5A => [0xCB, 0x6F]
  | .bit6B => [0xCB, 0x70]
  | .bit6C => [0xCB, 0x71]
  | .bit6D => [0xCB, 0x72]
  | .bit6E => [0xCB, 0x73]
  | .bit6H => [0xCB, 0x74]
  | .bit6L => [0xCB, 0x75]
  | .bit6MemHl => [0xCB, 0x76]
  | .bit6A => [0xCB, 0x77]
  | .bit7B => [0xCB, 0x78]
  | .bit7C => [0xCB, 0x79]
  | .bit7D => [0xCB, 0x7A]
  | .bit7E => [0xCB, 0x7B]
  | .bit7H => [0xCB, 0x7C]
  | .bit7L => [0xCB, 0x7D]
  | .bit7MemHl => [0xCB, 0x7E]
  | .bit7A => [0xCB, 0x7F]
  | .res0B => [0xCB, 0x80]
  | .res0C => [0xCB, 0x81]
  | .res0D => [0xCB, 0x82]
  | .res0E => [0xCB, 0x83]
  | .res0H => [0xCB, 0x84]
  | .res0L => [0xCB, 0x85]
  | .res0MemHl => [0xCB, 0x86]
  | .res0A => [0xCB, 0x87]
  | .res1B => [0xCB, 0x88]
  | .res1C => [0xCB, 0x89]
  | .res1D => [0xCB, 0x8A]
  | .res1E => [0xCB, 0x8B]
  | .res1H => [0xCB, 0x8C]
  | .res1L => [0xCB, 0x8D]
  | .res1MemHl => [0xCB, 0x8E]
  | .res1A => [0xCB, 0x8F]
  | .res2B => [0xCB, 0x90]
  | .res2C => [0xCB, 0x91]
  | .res2D => [0xCB, 0x92]
  | .res2E => [0xCB, 0x93]
  | .res2H => [0xCB, 0x94]
  | .res2L => [0xCB, 0x95]
  | .res2MemHl => [0xCB, 0x96]
  | .res2A => [0xCB, 0x97]
  | .res3B => [0xCB, 0x98]
  | .res3C => [0xCB, 0x99]
  | .res3D => [0xCB, 0x9A]
  | .res3E => [0xCB, 0x9B]
  | .res3H => [0xCB, 0x9C]
  | .res3L => [0xCB, 0x9D]
  | .res3MemHl => [0xCB, 0x9E]
  | .res3A => [0xCB, 0x9F]
  | .res4B => [0xCB, 0xA0]
  | .res4C => [0xCB, 0xA1]
  | .res4D => [0xCB, 0xA2]
  | .res4E => [0xCB, 0xA3]
  | .res4H => [0xCB, 0xA4]
  | .res4L => [0xCB, 0xA5]
  | .res4MemHl => [0xCB, 0xA6]
  | .res4A => [0xCB, 0xA7]
  | .res5B => [0xCB, 0xA8]
  | .res5C => [0xCB, 0xA9]
  | .res5D => [0xCB, 0xAA]
  | .res5E => [0xCB, 0xAB]
  | .res5H => [0xCB, 0xAC]
  | .res5L => [0xCB, 0xAD]
  | .res5MemHl => [0xCB, 0xAE]
  | .res5A => [0xCB, 0xAF]
  | .res6B => [0xCB, 0xB0]
  | .res6C => [0xCB, 0xB1]
  | .res6D => [0xCB, 0xB2]
  | .res6E => [0xCB, 0xB3]
  | .res6H => [0xCB, 0xB4]
  | .res6L => [0xCB, 0xB5]
  | .res6MemHl => [0xCB, 0xB6]
  | .res6A => [0xCB, 0xB7]
  | .res7B => [0xCB, 0xB8]
  | .res7C => [0xCB, 0xB9]
  | .res7D => [0xCB, 0xBA]
  | .res7E => [0xCB, 0xBB]
  | .res7H => [0xCB, 0xBC]
  | .res7L => [0xCB, 0xBD]
  | .res7MemHl => [0xCB, 0xBE]
  | .res7A => [0xCB, 0xBF]
  | .set0B => [0xCB, 0xC0]
  | .set0C => [0xCB, 0xC1]
  | .set0D => [0xCB, 0xC2]
  | .set0E => [0xCB, 0xC3]
  | .set0H => [0xCB, 0xC4]
  | .set0L => [0xCB, 0xC5]
  | .set0MemHl => [0xCB, 0xC6]
  | .set0A => [0xCB, 0xC7]
  | .set1B => [0xCB, 0xC8]
  | .set1C => [0xCB, 0xC9]
  | .set1D => [0xCB, 0xCA]
  | .set1E => [0xCB, 0xCB]
  | .set1H => [0xCB, 0xCC]
  | .set1L => [0xCB, 0xCD]
  | .set1MemHl => [0xCB, 0xCE]
  | .set1A => [0xCB, 0xCF]
  | .set2B => [0xCB, 0xD0]
  | .set2C => [0xCB, 0xD1]
  | .set2D => [0xCB, 0xD2]
  | .set2E => [0xCB, 0xD3]
  | .set2H => [0xCB, 0xD4]
  | .set2L => [0xCB, 0xD5]
  | .set2MemHl => [0xCB, 0xD6]
  | .set2A => [0xCB, 0xD7]
  | .set3B => [0xCB, 0xD8]
  | .set3C => [0xCB, 0xD9]
  | .set3D => [0xCB, 0xDA]
  | .set3E => [0xCB, 0xDB]
  | .set3H => [0xCB, 0xDC]
  | .set3L => [0xCB, 0xDD]
  | .set3MemHl => [0xCB, 0xDE]
  | .set3A => [0xCB, 0xDF]
  | .set4B => [0xCB, 0xE0]
  | .set4C => [0xCB, 0xE1]
  | .set4D => [0xCB, 0xE2]
  | .set4E => [0xCB, 0xE3]
  | .set4H => [0xCB, 0xE4]
  | .set4L => [0xCB, 0xE5]
  | .set4MemHl => [0xCB, 0xE6]
  | .set4A => [0xCB, 0xE7]
  | .set5B => [0xCB, 0xE8]
  | .set5C => [0xCB, 0xE9]
  | .set5D => [0xCB, 0xEA]
  | .set5E => [0xCB, 0xEB]
  | .set5H => [0xCB, 0xEC]
  | .set5L => [0xCB, 0xED]
  | .set5MemHl => [0xCB, 0xEE]
  | .set5A => [0xCB, 0xEF]
  | .set6B => [0xCB, 0xF0]
  | .set6C => [0xCB, 0xF1]
  | .set6D => [0xCB, 0xF2]
  | .set6E => [0xCB, 0xF3]
  | .set6H => [0xCB, 0xF4]
  | .set6L => [0xCB, 0xF5]
  | .set6MemHl => [0xCB, 0xF6]
  | .set6A => [0xCB, 0xF7]
  | .set7B => [0xCB, 0xF8]
  | .set7C => [0xCB, 0xF9]
  | .set7D => [0xCB, 0xFA]
  | .set7E => [0xCB, 0xFB]
  | .set7H => [0xCB, 0xFC]
  | .set7L => [0xCB, 0xFD]
  | .set7MemHl => [0xCB, 0xFE]
  | .set7A => [0xCB, 0xFF]

/-- The length of an instruction in bytes (R120). -/
def Instr.length (i : Instr) : Nat := (encode i).length

/-- The first byte of an instruction, the one Fetch reads (40_dispatch.md R169). -/
def Instr.opcode (i : Instr) : Byte := (encode i).headD 0

/-- The instruction an instruction's bytes decode to: itself, but for the row PREFIX CB, whose bytes are those of
an instruction of the extended table (47_system.md R415; log 14). -/
def Instr.canonical : Instr → Instr
  | .prefixCb op2 => cbTable op2
  | i => i

/-- The instruction the decoder reads from a word numbered as spec/opcode_table.json numbers it: bits 7 to 0 the
first byte, bits above `nbits` zero (log 14 on the rows of the table "cb"). -/
def decodeTableWord (nbits w : Nat) : Option Instr :=
  let v := w % 2 ^ nbits
  match decode [BitVec.ofNat 8 v, BitVec.ofNat 8 (v / 0x100), BitVec.ofNat 8 (v / 0x10000)] with
  | .ok (i, _) => some i
  | .error _ => none

end Sys2Proof
end

