-- ==== Sys2Proof/Machine/Rotate.lean ====
section
/-! DEFINITION. Rotates, shifts and bit operations (45_rotate_shift_bit.md), and the row PREFIX CB. -/

namespace Sys2Proof.Machine

/-- A rotate of A in the main table (R341 to R344): Zero always cleared. -/
def rotateA (rot : Byte → Bool → Byte × Bool) (s : State) : State :=
  let r := rot s.a s.carry
  ({ s with a := r.1 } : State).setFlags false false false r.2

/-- A rotate or shift of an operand (R345 to R353): read, write back, Zero from the result, Carry the bit out. -/
def rotateAt (rot : Byte → Bool → Byte × Bool) (x : Operand8) (s : State) : State :=
  let r := rot (s.operand x) s.carry
  (s.setOperand x r.1).setFlags (r.1 == 0) false false r.2

/-- BIT (R354): nothing written back, Carry kept. -/
def bitTest (b : Nat) (x : Operand8) (s : State) : State :=
  s.setFlags (!(s.operand x).getLsbD b) false true s.carry

/-- RES (R355). -/
def bitReset (b : Nat) (x : Operand8) (s : State) : State := s.setOperand x (clearBit b (s.operand x))

/-- SET (R356). -/
def bitSet (b : Nat) (x : Operand8) (s : State) : State := s.setOperand x (setBit b (s.operand x))

/-- `x[z]` (30_encoding.md R122). -/
def operandOf : Nat → Operand8
  | 0 => .reg .b
  | 1 => .reg .c
  | 2 => .reg .d
  | 3 => .reg .e
  | 4 => .reg .h
  | 5 => .reg .l
  | 6 => .memHl
  | _ => .reg .a

/-- `CBTABLE[op2]()` by the fields of the second byte (30_encoding.md R130), what PREFIX CB runs (47_system.md R415). -/
def runExtended (op2 : Byte) (s : State) : State :=
  match op2.toNat / 64 with
  | 0 => rotateAt (rotateOf (fieldY op2)) (operandOf (fieldZ op2)) s
  | 1 => bitTest (fieldY op2) (operandOf (fieldZ op2)) s
  | 2 => bitReset (fieldY op2) (operandOf (fieldZ op2)) s
  | _ => bitSet (fieldY op2) (operandOf (fieldZ op2)) s

-- R341
def execRlca (s : State) : Out := .next (rotateA rotLeft s)

-- R342
def execRla (s : State) : Out := .next (rotateA rotLeftCarry s)

-- R343
def execRrca (s : State) : Out := .next (rotateA rotRight s)

-- R344
def execRra (s : State) : Out := .next (rotateA rotRightCarry s)

-- R346
def execRlcB (s : State) : Out := .next (rotateAt rotLeft (.reg .b) s)
def execRlcC (s : State) : Out := .next (rotateAt rotLeft (.reg .c) s)
def execRlcD (s : State) : Out := .next (rotateAt rotLeft (.reg .d) s)
def execRlcE (s : State) : Out := .next (rotateAt rotLeft (.reg .e) s)
def execRlcH (s : State) : Out := .next (rotateAt rotLeft (.reg .h) s)
def execRlcL (s : State) : Out := .next (rotateAt rotLeft (.reg .l) s)
def execRlcMemHl (s : State) : Out := .next (rotateAt rotLeft .memHl s)
def execRlcA (s : State) : Out := .next (rotateAt rotLeft (.reg .a) s)

-- R347
def execRrcB (s : State) : Out := .next (rotateAt rotRight (.reg .b) s)
def execRrcC (s : State) : Out := .next (rotateAt rotRight (.reg .c) s)
def execRrcD (s : State) : Out := .next (rotateAt rotRight (.reg .d) s)
def execRrcE (s : State) : Out := .next (rotateAt rotRight (.reg .e) s)
def execRrcH (s : State) : Out := .next (rotateAt rotRight (.reg .h) s)
def execRrcL (s : State) : Out := .next (rotateAt rotRight (.reg .l) s)
def execRrcMemHl (s : State) : Out := .next (rotateAt rotRight .memHl s)
def execRrcA (s : State) : Out := .next (rotateAt rotRight (.reg .a) s)

-- R348
def execRlB (s : State) : Out := .next (rotateAt rotLeftCarry (.reg .b) s)
def execRlC (s : State) : Out := .next (rotateAt rotLeftCarry (.reg .c) s)
def execRlD (s : State) : Out := .next (rotateAt rotLeftCarry (.reg .d) s)
def execRlE (s : State) : Out := .next (rotateAt rotLeftCarry (.reg .e) s)
def execRlH (s : State) : Out := .next (rotateAt rotLeftCarry (.reg .h) s)
def execRlL (s : State) : Out := .next (rotateAt rotLeftCarry (.reg .l) s)
def execRlMemHl (s : State) : Out := .next (rotateAt rotLeftCarry .memHl s)
def execRlA (s : State) : Out := .next (rotateAt rotLeftCarry (.reg .a) s)

-- R349
def execRrB (s : State) : Out := .next (rotateAt rotRightCarry (.reg .b) s)
def execRrC (s : State) : Out := .next (rotateAt rotRightCarry (.reg .c) s)
def execRrD (s : State) : Out := .next (rotateAt rotRightCarry (.reg .d) s)
def execRrE (s : State) : Out := .next (rotateAt rotRightCarry (.reg .e) s)
def execRrH (s : State) : Out := .next (rotateAt rotRightCarry (.reg .h) s)
def execRrL (s : State) : Out := .next (rotateAt rotRightCarry (.reg .l) s)
def execRrMemHl (s : State) : Out := .next (rotateAt rotRightCarry .memHl s)
def execRrA (s : State) : Out := .next (rotateAt rotRightCarry (.reg .a) s)

-- R350
def execSlaB (s : State) : Out := .next (rotateAt shiftLeft (.reg .b) s)
def execSlaC (s : State) : Out := .next (rotateAt shiftLeft (.reg .c) s)
def execSlaD (s : State) : Out := .next (rotateAt shiftLeft (.reg .d) s)
def execSlaE (s : State) : Out := .next (rotateAt shiftLeft (.reg .e) s)
def execSlaH (s : State) : Out := .next (rotateAt shiftLeft (.reg .h) s)
def execSlaL (s : State) : Out := .next (rotateAt shiftLeft (.reg .l) s)
def execSlaMemHl (s : State) : Out := .next (rotateAt shiftLeft .memHl s)
def execSlaA (s : State) : Out := .next (rotateAt shiftLeft (.reg .a) s)

-- R351
def execSraB (s : State) : Out := .next (rotateAt shiftRightArith (.reg .b) s)
def execSraC (s : State) : Out := .next (rotateAt shiftRightArith (.reg .c) s)
def execSraD (s : State) : Out := .next (rotateAt shiftRightArith (.reg .d) s)
def execSraE (s : State) : Out := .next (rotateAt shiftRightArith (.reg .e) s)
def execSraH (s : State) : Out := .next (rotateAt shiftRightArith (.reg .h) s)
def execSraL (s : State) : Out := .next (rotateAt shiftRightArith (.reg .l) s)
def execSraMemHl (s : State) : Out := .next (rotateAt shiftRightArith .memHl s)
def execSraA (s : State) : Out := .next (rotateAt shiftRightArith (.reg .a) s)

-- R352
def execSwapB (s : State) : Out := .next (rotateAt swapNibbles (.reg .b) s)
def execSwapC (s : State) : Out := .next (rotateAt swapNibbles (.reg .c) s)
def execSwapD (s : State) : Out := .next (rotateAt swapNibbles (.reg .d) s)
def execSwapE (s : State) : Out := .next (rotateAt swapNibbles (.reg .e) s)
def execSwapH (s : State) : Out := .next (rotateAt swapNibbles (.reg .h) s)
def execSwapL (s : State) : Out := .next (rotateAt swapNibbles (.reg .l) s)
def execSwapMemHl (s : State) : Out := .next (rotateAt swapNibbles .memHl s)
def execSwapA (s : State) : Out := .next (rotateAt swapNibbles (.reg .a) s)

-- R353
def execSrlB (s : State) : Out := .next (rotateAt shiftRight (.reg .b) s)
def execSrlC (s : State) : Out := .next (rotateAt shiftRight (.reg .c) s)
def execSrlD (s : State) : Out := .next (rotateAt shiftRight (.reg .d) s)
def execSrlE (s : State) : Out := .next (rotateAt shiftRight (.reg .e) s)
def execSrlH (s : State) : Out := .next (rotateAt shiftRight (.reg .h) s)
def execSrlL (s : State) : Out := .next (rotateAt shiftRight (.reg .l) s)
def execSrlMemHl (s : State) : Out := .next (rotateAt shiftRight .memHl s)
def execSrlA (s : State) : Out := .next (rotateAt shiftRight (.reg .a) s)

-- R354
def execBit0B (s : State) : Out := .next (bitTest 0 (.reg .b) s)
def execBit0C (s : State) : Out := .next (bitTest 0 (.reg .c) s)
def execBit0D (s : State) : Out := .next (bitTest 0 (.reg .d) s)
def execBit0E (s : State) : Out := .next (bitTest 0 (.reg .e) s)
def execBit0H (s : State) : Out := .next (bitTest 0 (.reg .h) s)
def execBit0L (s : State) : Out := .next (bitTest 0 (.reg .l) s)
def execBit0MemHl (s : State) : Out := .next (bitTest 0 .memHl s)
def execBit0A (s : State) : Out := .next (bitTest 0 (.reg .a) s)
def execBit1B (s : State) : Out := .next (bitTest 1 (.reg .b) s)
def execBit1C (s : State) : Out := .next (bitTest 1 (.reg .c) s)
def execBit1D (s : State) : Out := .next (bitTest 1 (.reg .d) s)
def execBit1E (s : State) : Out := .next (bitTest 1 (.reg .e) s)
def execBit1H (s : State) : Out := .next (bitTest 1 (.reg .h) s)
def execBit1L (s : State) : Out := .next (bitTest 1 (.reg .l) s)
def execBit1MemHl (s : State) : Out := .next (bitTest 1 .memHl s)
def execBit1A (s : State) : Out := .next (bitTest 1 (.reg .a) s)
def execBit2B (s : State) : Out := .next (bitTest 2 (.reg .b) s)
def execBit2C (s : State) : Out := .next (bitTest 2 (.reg .c) s)
def execBit2D (s : State) : Out := .next (bitTest 2 (.reg .d) s)
def execBit2E (s : State) : Out := .next (bitTest 2 (.reg .e) s)
def execBit2H (s : State) : Out := .next (bitTest 2 (.reg .h) s)
def execBit2L (s : State) : Out := .next (bitTest 2 (.reg .l) s)
def execBit2MemHl (s : State) : Out := .next (bitTest 2 .memHl s)
def execBit2A (s : State) : Out := .next (bitTest 2 (.reg .a) s)
def execBit3B (s : State) : Out := .next (bitTest 3 (.reg .b) s)
def execBit3C (s : State) : Out := .next (bitTest 3 (.reg .c) s)
def execBit3D (s : State) : Out := .next (bitTest 3 (.reg .d) s)
def execBit3E (s : State) : Out := .next (bitTest 3 (.reg .e) s)
def execBit3H (s : State) : Out := .next (bitTest 3 (.reg .h) s)
def execBit3L (s : State) : Out := .next (bitTest 3 (.reg .l) s)
def execBit3MemHl (s : State) : Out := .next (bitTest 3 .memHl s)
def execBit3A (s : State) : Out := .next (bitTest 3 (.reg .a) s)
def execBit4B (s : State) : Out := .next (bitTest 4 (.reg .b) s)
def execBit4C (s : State) : Out := .next (bitTest 4 (.reg .c) s)
def execBit4D (s : State) : Out := .next (bitTest 4 (.reg .d) s)
def execBit4E (s : State) : Out := .next (bitTest 4 (.reg .e) s)
def execBit4H (s : State) : Out := .next (bitTest 4 (.reg .h) s)
def execBit4L (s : State) : Out := .next (bitTest 4 (.reg .l) s)
def execBit4MemHl (s : State) : Out := .next (bitTest 4 .memHl s)
def execBit4A (s : State) : Out := .next (bitTest 4 (.reg .a) s)
def execBit5B (s : State) : Out := .next (bitTest 5 (.reg .b) s)
def execBit5C (s : State) : Out := .next (bitTest 5 (.reg .c) s)
def execBit5D (s : State) : Out := .next (bitTest 5 (.reg .d) s)
def execBit5E (s : State) : Out := .next (bitTest 5 (.reg .e) s)
def execBit5H (s : State) : Out := .next (bitTest 5 (.reg .h) s)
def execBit5L (s : State) : Out := .next (bitTest 5 (.reg .l) s)
def execBit5MemHl (s : State) : Out := .next (bitTest 5 .memHl s)
def execBit5A (s : State) : Out := .next (bitTest 5 (.reg .a) s)
def execBit6B (s : State) : Out := .next (bitTest 6 (.reg .b) s)
def execBit6C (s : State) : Out := .next (bitTest 6 (.reg .c) s)
def execBit6D (s : State) : Out := .next (bitTest 6 (.reg .d) s)
def execBit6E (s : State) : Out := .next (bitTest 6 (.reg .e) s)
def execBit6H (s : State) : Out := .next (bitTest 6 (.reg .h) s)
def execBit6L (s : State) : Out := .next (bitTest 6 (.reg .l) s)
def execBit6MemHl (s : State) : Out := .next (bitTest 6 .memHl s)
def execBit6A (s : State) : Out := .next (bitTest 6 (.reg .a) s)
def execBit7B (s : State) : Out := .next (bitTest 7 (.reg .b) s)
def execBit7C (s : State) : Out := .next (bitTest 7 (.reg .c) s)
def execBit7D (s : State) : Out := .next (bitTest 7 (.reg .d) s)
def execBit7E (s : State) : Out := .next (bitTest 7 (.reg .e) s)
def execBit7H (s : State) : Out := .next (bitTest 7 (.reg .h) s)
def execBit7L (s : State) : Out := .next (bitTest 7 (.reg .l) s)
def execBit7MemHl (s : State) : Out := .next (bitTest 7 .memHl s)
def execBit7A (s : State) : Out := .next (bitTest 7 (.reg .a) s)

-- R355
def execRes0B (s : State) : Out := .next (bitReset 0 (.reg .b) s)
def execRes0C (s : State) : Out := .next (bitReset 0 (.reg .c) s)
def execRes0D (s : State) : Out := .next (bitReset 0 (.reg .d) s)
def execRes0E (s : State) : Out := .next (bitReset 0 (.reg .e) s)
def execRes0H (s : State) : Out := .next (bitReset 0 (.reg .h) s)
def execRes0L (s : State) : Out := .next (bitReset 0 (.reg .l) s)
def execRes0MemHl (s : State) : Out := .next (bitReset 0 .memHl s)
def execRes0A (s : State) : Out := .next (bitReset 0 (.reg .a) s)
def execRes1B (s : State) : Out := .next (bitReset 1 (.reg .b) s)
def execRes1C (s : State) : Out := .next (bitReset 1 (.reg .c) s)
def execRes1D (s : State) : Out := .next (bitReset 1 (.reg .d) s)
def execRes1E (s : State) : Out := .next (bitReset 1 (.reg .e) s)
def execRes1H (s : State) : Out := .next (bitReset 1 (.reg .h) s)
def execRes1L (s : State) : Out := .next (bitReset 1 (.reg .l) s)
def execRes1MemHl (s : State) : Out := .next (bitReset 1 .memHl s)
def execRes1A (s : State) : Out := .next (bitReset 1 (.reg .a) s)
def execRes2B (s : State) : Out := .next (bitReset 2 (.reg .b) s)
def execRes2C (s : State) : Out := .next (bitReset 2 (.reg .c) s)
def execRes2D (s : State) : Out := .next (bitReset 2 (.reg .d) s)
def execRes2E (s : State) : Out := .next (bitReset 2 (.reg .e) s)
def execRes2H (s : State) : Out := .next (bitReset 2 (.reg .h) s)
def execRes2L (s : State) : Out := .next (bitReset 2 (.reg .l) s)
def execRes2MemHl (s : State) : Out := .next (bitReset 2 .memHl s)
def execRes2A (s : State) : Out := .next (bitReset 2 (.reg .a) s)
def execRes3B (s : State) : Out := .next (bitReset 3 (.reg .b) s)
def execRes3C (s : State) : Out := .next (bitReset 3 (.reg .c) s)
def execRes3D (s : State) : Out := .next (bitReset 3 (.reg .d) s)
def execRes3E (s : State) : Out := .next (bitReset 3 (.reg .e) s)
def execRes3H (s : State) : Out := .next (bitReset 3 (.reg .h) s)
def execRes3L (s : State) : Out := .next (bitReset 3 (.reg .l) s)
def execRes3MemHl (s : State) : Out := .next (bitReset 3 .memHl s)
def execRes3A (s : State) : Out := .next (bitReset 3 (.reg .a) s)
def execRes4B (s : State) : Out := .next (bitReset 4 (.reg .b) s)
def execRes4C (s : State) : Out := .next (bitReset 4 (.reg .c) s)
def execRes4D (s : State) : Out := .next (bitReset 4 (.reg .d) s)
def execRes4E (s : State) : Out := .next (bitReset 4 (.reg .e) s)
def execRes4H (s : State) : Out := .next (bitReset 4 (.reg .h) s)
def execRes4L (s : State) : Out := .next (bitReset 4 (.reg .l) s)
def execRes4MemHl (s : State) : Out := .next (bitReset 4 .memHl s)
def execRes4A (s : State) : Out := .next (bitReset 4 (.reg .a) s)
def execRes5B (s : State) : Out := .next (bitReset 5 (.reg .b) s)
def execRes5C (s : State) : Out := .next (bitReset 5 (.reg .c) s)
def execRes5D (s : State) : Out := .next (bitReset 5 (.reg .d) s)
def execRes5E (s : State) : Out := .next (bitReset 5 (.reg .e) s)
def execRes5H (s : State) : Out := .next (bitReset 5 (.reg .h) s)
def execRes5L (s : State) : Out := .next (bitReset 5 (.reg .l) s)
def execRes5MemHl (s : State) : Out := .next (bitReset 5 .memHl s)
def execRes5A (s : State) : Out := .next (bitReset 5 (.reg .a) s)
def execRes6B (s : State) : Out := .next (bitReset 6 (.reg .b) s)
def execRes6C (s : State) : Out := .next (bitReset 6 (.reg .c) s)
def execRes6D (s : State) : Out := .next (bitReset 6 (.reg .d) s)
def execRes6E (s : State) : Out := .next (bitReset 6 (.reg .e) s)
def execRes6H (s : State) : Out := .next (bitReset 6 (.reg .h) s)
def execRes6L (s : State) : Out := .next (bitReset 6 (.reg .l) s)
def execRes6MemHl (s : State) : Out := .next (bitReset 6 .memHl s)
def execRes6A (s : State) : Out := .next (bitReset 6 (.reg .a) s)
def execRes7B (s : State) : Out := .next (bitReset 7 (.reg .b) s)
def execRes7C (s : State) : Out := .next (bitReset 7 (.reg .c) s)
def execRes7D (s : State) : Out := .next (bitReset 7 (.reg .d) s)
def execRes7E (s : State) : Out := .next (bitReset 7 (.reg .e) s)
def execRes7H (s : State) : Out := .next (bitReset 7 (.reg .h) s)
def execRes7L (s : State) : Out := .next (bitReset 7 (.reg .l) s)
def execRes7MemHl (s : State) : Out := .next (bitReset 7 .memHl s)
def execRes7A (s : State) : Out := .next (bitReset 7 (.reg .a) s)

-- R356
def execSet0B (s : State) : Out := .next (bitSet 0 (.reg .b) s)
def execSet0C (s : State) : Out := .next (bitSet 0 (.reg .c) s)
def execSet0D (s : State) : Out := .next (bitSet 0 (.reg .d) s)
def execSet0E (s : State) : Out := .next (bitSet 0 (.reg .e) s)
def execSet0H (s : State) : Out := .next (bitSet 0 (.reg .h) s)
def execSet0L (s : State) : Out := .next (bitSet 0 (.reg .l) s)
def execSet0MemHl (s : State) : Out := .next (bitSet 0 .memHl s)
def execSet0A (s : State) : Out := .next (bitSet 0 (.reg .a) s)
def execSet1B (s : State) : Out := .next (bitSet 1 (.reg .b) s)
def execSet1C (s : State) : Out := .next (bitSet 1 (.reg .c) s)
def execSet1D (s : State) : Out := .next (bitSet 1 (.reg .d) s)
def execSet1E (s : State) : Out := .next (bitSet 1 (.reg .e) s)
def execSet1H (s : State) : Out := .next (bitSet 1 (.reg .h) s)
def execSet1L (s : State) : Out := .next (bitSet 1 (.reg .l) s)
def execSet1MemHl (s : State) : Out := .next (bitSet 1 .memHl s)
def execSet1A (s : State) : Out := .next (bitSet 1 (.reg .a) s)
def execSet2B (s : State) : Out := .next (bitSet 2 (.reg .b) s)
def execSet2C (s : State) : Out := .next (bitSet 2 (.reg .c) s)
def execSet2D (s : State) : Out := .next (bitSet 2 (.reg .d) s)
def execSet2E (s : State) : Out := .next (bitSet 2 (.reg .e) s)
def execSet2H (s : State) : Out := .next (bitSet 2 (.reg .h) s)
def execSet2L (s : State) : Out := .next (bitSet 2 (.reg .l) s)
def execSet2MemHl (s : State) : Out := .next (bitSet 2 .memHl s)
def execSet2A (s : State) : Out := .next (bitSet 2 (.reg .a) s)
def execSet3B (s : State) : Out := .next (bitSet 3 (.reg .b) s)
def execSet3C (s : State) : Out := .next (bitSet 3 (.reg .c) s)
def execSet3D (s : State) : Out := .next (bitSet 3 (.reg .d) s)
def execSet3E (s : State) : Out := .next (bitSet 3 (.reg .e) s)
def execSet3H (s : State) : Out := .next (bitSet 3 (.reg .h) s)
def execSet3L (s : State) : Out := .next (bitSet 3 (.reg .l) s)
def execSet3MemHl (s : State) : Out := .next (bitSet 3 .memHl s)
def execSet3A (s : State) : Out := .next (bitSet 3 (.reg .a) s)
def execSet4B (s : State) : Out := .next (bitSet 4 (.reg .b) s)
def execSet4C (s : State) : Out := .next (bitSet 4 (.reg .c) s)
def execSet4D (s : State) : Out := .next (bitSet 4 (.reg .d) s)
def execSet4E (s : State) : Out := .next (bitSet 4 (.reg .e) s)
def execSet4H (s : State) : Out := .next (bitSet 4 (.reg .h) s)
def execSet4L (s : State) : Out := .next (bitSet 4 (.reg .l) s)
def execSet4MemHl (s : State) : Out := .next (bitSet 4 .memHl s)
def execSet4A (s : State) : Out := .next (bitSet 4 (.reg .a) s)
def execSet5B (s : State) : Out := .next (bitSet 5 (.reg .b) s)
def execSet5C (s : State) : Out := .next (bitSet 5 (.reg .c) s)
def execSet5D (s : State) : Out := .next (bitSet 5 (.reg .d) s)
def execSet5E (s : State) : Out := .next (bitSet 5 (.reg .e) s)
def execSet5H (s : State) : Out := .next (bitSet 5 (.reg .h) s)
def execSet5L (s : State) : Out := .next (bitSet 5 (.reg .l) s)
def execSet5MemHl (s : State) : Out := .next (bitSet 5 .memHl s)
def execSet5A (s : State) : Out := .next (bitSet 5 (.reg .a) s)
def execSet6B (s : State) : Out := .next (bitSet 6 (.reg .b) s)
def execSet6C (s : State) : Out := .next (bitSet 6 (.reg .c) s)
def execSet6D (s : State) : Out := .next (bitSet 6 (.reg .d) s)
def execSet6E (s : State) : Out := .next (bitSet 6 (.reg .e) s)
def execSet6H (s : State) : Out := .next (bitSet 6 (.reg .h) s)
def execSet6L (s : State) : Out := .next (bitSet 6 (.reg .l) s)
def execSet6MemHl (s : State) : Out := .next (bitSet 6 .memHl s)
def execSet6A (s : State) : Out := .next (bitSet 6 (.reg .a) s)
def execSet7B (s : State) : Out := .next (bitSet 7 (.reg .b) s)
def execSet7C (s : State) : Out := .next (bitSet 7 (.reg .c) s)
def execSet7D (s : State) : Out := .next (bitSet 7 (.reg .d) s)
def execSet7E (s : State) : Out := .next (bitSet 7 (.reg .e) s)
def execSet7H (s : State) : Out := .next (bitSet 7 (.reg .h) s)
def execSet7L (s : State) : Out := .next (bitSet 7 (.reg .l) s)
def execSet7MemHl (s : State) : Out := .next (bitSet 7 .memHl s)
def execSet7A (s : State) : Out := .next (bitSet 7 (.reg .a) s)

-- R415
def execPrefixCb (op2 : Byte) (s : State) : Out := .next (runExtended op2 s)

end Sys2Proof.Machine
end

