-- ==== Sys2Proof/Machine/System.lean ====
section
/-! DEFINITION. The system instructions and the unassigned opcodes (47_system.md). -/

namespace Sys2Proof.Machine

/-- What HALT does under a mode (R411): set the latch, which Dispatch never reads (40_dispatch.md R175). -/
def haltAs (mode : HaltMode) (s : State) : Out :=
  match mode with
  | .latch => .next { s with halted := true }
  | .refuse => .refused .haltRefused

/-- What STOP does under a mode (R412); its second byte is fetched and ignored. -/
def stopAs (mode : StopMode) (s : State) : Out :=
  match mode with
  | .nop => .next s
  | .refuse => .refused .stopRefused

/-- `raise UnassignedOpcode(op, pc0)` (60_exceptions.md R440): the state is the one after Fetch, so `pc0` is one below PC. -/
def raiseUnassigned (op : Byte) (s : State) : Out := .fault (.unassignedOpcode op (s.pc - 1) s)

-- R410
def execNop (s : State) : Out := .next s

-- R411
def execHalt (s : State) : Out := haltAs Config.haltMode s

-- R412
def execStop (_n : Byte) (s : State) : Out := stopAs Config.stopMode s

-- R413
def execDi (s : State) : Out := .next ({ s with pendingDisable := true })

-- R414
def execEi (s : State) : Out := .next ({ s with pendingEnable := true })

-- R416
def execUnassigned (op : Byte) (s : State) : Out := raiseUnassigned op s

end Sys2Proof.Machine
end

