-- ==== Sys2Proof/Machine/Timing.lean ====
section
/-! DEFINITION. The clock cost a Dispatch call returns (40_dispatch.md R163, R170; 70_reset_and_hazards.md R510), in
T-cycles. It is an output; nothing reads it (R511). -/

namespace Sys2Proof.Machine

/-- `OPTABLE[op].cost` (R510), sixteen opcode bytes a row; 0 marks an unassigned byte (40_dispatch.md R162). -/
def costRow : Nat → List Nat
  | 0 => [4, 12, 8, 8, 4, 4, 8, 4, 20, 8, 8, 8, 4, 4, 8, 4]
  | 1 => [4, 12, 8, 8, 4, 4, 8, 4, 12, 8, 8, 8, 4, 4, 8, 4]
  | 2 => [8, 12, 8, 8, 4, 4, 8, 4, 8, 8, 8, 8, 4, 4, 8, 4]
  | 3 => [8, 12, 8, 8, 12, 12, 12, 4, 8, 8, 8, 8, 4, 4, 8, 4]
  | 4 => [4, 4, 4, 4, 4, 4, 8, 4, 4, 4, 4, 4, 4, 4, 8, 4]
  | 5 => [4, 4, 4, 4, 4, 4, 8, 4, 4, 4, 4, 4, 4, 4, 8, 4]
  | 6 => [4, 4, 4, 4, 4, 4, 8, 4, 4, 4, 4, 4, 4, 4, 8, 4]
  | 7 => [8, 8, 8, 8, 8, 8, 4, 8, 4, 4, 4, 4, 4, 4, 8, 4]
  | 8 => [4, 4, 4, 4, 4, 4, 8, 4, 4, 4, 4, 4, 4, 4, 8, 4]
  | 9 => [4, 4, 4, 4, 4, 4, 8, 4, 4, 4, 4, 4, 4, 4, 8, 4]
  | 10 => [4, 4, 4, 4, 4, 4, 8, 4, 4, 4, 4, 4, 4, 4, 8, 4]
  | 11 => [4, 4, 4, 4, 4, 4, 8, 4, 4, 4, 4, 4, 4, 4, 8, 4]
  | 12 => [8, 12, 12, 16, 12, 16, 8, 16, 8, 16, 12, 4, 12, 24, 8, 16]
  | 13 => [8, 12, 12, 0, 12, 16, 8, 16, 8, 16, 12, 0, 12, 0, 8, 16]
  | 14 => [12, 12, 8, 0, 0, 16, 8, 16, 16, 4, 16, 0, 0, 0, 8, 16]
  | _ => [12, 12, 8, 4, 0, 16, 8, 16, 12, 8, 16, 4, 0, 0, 8, 16]

/-- The base cost of an opcode byte. -/
def baseCost (op : Byte) : Nat := (costRow (op.toNat / 16)).getD (op.toNat % 16) 0

/-- The total cost of the instruction with second byte `op2` after 0xCB (45_rotate_shift_bit.md R345). -/
def cbCost (op2 : Byte) : Nat :=
  if fieldZ op2 = 6 then (if op2.toNat / 64 = 1 then 12 else 16) else 8

/-- The condition of the field cc, `op[4:3]` (30_encoding.md R124). -/
def condOf (op : Byte) : Cond :=
  match op.toNat / 8 % 4 with
  | 0 => .nz
  | 1 => .z
  | 2 => .nc
  | _ => .c

/-- What the handler returns beyond the base cost (R163): the taken conditional transfers (46_control.md R382,
R385, R387, R391) and the extended instructions. -/
def extraCost (op op2 : Byte) (s : State) : Nat :=
  if op = 0xCB then cbCost op2 - 4
  else if [0x20, 0x28, 0x30, 0x38, 0xC2, 0xCA, 0xD2, 0xDA].contains op then (if s.holds (condOf op) then 4 else 0)
  else if [0xC0, 0xC8, 0xD0, 0xD8, 0xC4, 0xCC, 0xD4, 0xDC].contains op then (if s.holds (condOf op) then 12 else 0)
  else 0

/-- The cost Dispatch returns for an instruction whose handler runs on `s` (R170). -/
def dispatchCost (i : Instr) (s : State) : Nat :=
  baseCost i.opcode + extraCost i.opcode ((encode i).getD 1 0) s

end Sys2Proof.Machine
end

