-- ==== Sys2Proof/Machine/Engine.lean ====
section
/-! DEFINITION. One Dispatch call (40_dispatch.md R160): fetch, execute, the deferred interrupt protocol, the
result; one step of the machine with the host's part; and placing an instruction where the next fetch reads. -/

namespace Sys2Proof.Machine

namespace State

/-- Fetch and the immediate fetches (R161, R164, R165): the bytes from PC on, read through the bus. Reads change
nothing (20_memory.md R95), so bytes past the instruction's end may be named here without effect (log 18). -/
def fetchBytes (s : State) : List Byte :=
  [s.readByte s.pc, s.readByte (s.pc + 1), s.readByte (s.pc + 2)]

/-- The instruction at PC. -/
def fetchInstr (s : State) : Instr :=
  decodeAt (s.readByte s.pc) (s.readByte (s.pc + 1)) (s.readByte (s.pc + 2))

/-- PC past the bytes of an instruction, modulo 2^16 (10_state.md R25, R26). -/
def pastInstr (s : State) (i : Instr) : State := { s with pc := s.pc + BitVec.ofNat 16 i.length }

/-- The post-instruction check of the deferred protocol (R167): disable first, then enable; `op` is the first
fetched byte (R169). -/
def deferredCheck (op : Byte) (s : State) : State :=
  let t := if s.pendingDisable && decide (op ≠ Config.opDI)
    then { s with pendingDisable := false, ime := false } else s
  if t.pendingEnable && decide (op ≠ Config.opEI)
    then { t with pendingEnable := false, ime := true } else t

/-- The end of a Dispatch call whose handler ran on `before` and left `after`: the check, then the returned cost (R170). -/
def finish (i : Instr) (op : Byte) (before after : State) : State :=
  { after.deferredCheck op with cycles := dispatchCost i before }

/-- Put a byte where a fetch at `a` reads it: in the array, or among the cartridge's answers (log 3). -/
def placeByte (s : State) (a : Word) (v : Byte) : State :=
  if delegated a then { s with cart := { s.cart with fixed := cellsInsert a.toNat v s.cart.fixed } }
  else s.storeCell a v

/-- `s` with the three bytes of a table word from PC on, not halted, and its next boundary quiet, so that its next
step runs that instruction and nothing else. -/
def placeWord (s : State) (nbits w : Nat) : State :=
  let v := w % 2 ^ nbits
  let t := s.placeByte s.pc (BitVec.ofNat 8 v)
  let t := t.placeByte (s.pc + 1) (BitVec.ofNat 8 (v / 0x100))
  let t := t.placeByte (s.pc + 2) (BitVec.ofNat 8 (v / 0x10000))
  { t with
    halted := false
    host := match s.host with
      | [] => []
      | rest => quietBoundary :: rest }

end State

/-- `Dispatch()` (R160). A fault or a refusal ends it before the check and the result. -/
def dispatch (s : State) : Out :=
  let i := s.fetchInstr
  let before := s.pastInstr i
  match exec i before with
  | .next t => .next (State.finish i (s.readByte s.pc) before t)
  | .fault r => .fault r
  | .refused r => .refused r

/-- The host's part of this boundary (60_exceptions.md R455), then one Dispatch call, which the host does not make
while Halted (R470): a step of a halted core is the host's part alone. -/
def boundaryThenDispatch (s : State) : Out :=
  if s.afterHost.halted then .next s.afterHost else dispatch s.afterHost

end Sys2Proof.Machine
end

