-- ==== Sys2Proof/Machine/Step.lean ====
section
/-! DEFINITION. The step function and the placing of an instruction at the next fetch; both are Engine.lean's. -/

namespace Sys2Proof.Machine

/-- One step: from one instruction boundary to the next. -/
def step (s : State) : Host.Outcome State Fault Refusal := boundaryThenDispatch s

/-- `s` with the instruction of a table word stored where its next step fetches. -/
def State.withFetchWord (s : State) (nbits w : Nat) : State := s.placeWord nbits w

end Sys2Proof.Machine
end

