-- ==== Sys2Proof/Safety.lean ====
section
/-! DEFINITION. The invariant of an instruction boundary, and the terms in which claims speak of what an instruction
touches. -/

namespace Sys2Proof.Machine

/-- The array is in canonical form, so are the cartridge's fixed cells, and at most one pending flag is set
(10_state.md R31). -/
def State.inv (s : State) : Bool :=
  s.mem.wf && cellsRising 0 s.cart.fixed && !(s.pendingDisable && s.pendingEnable)

/-- The addresses `x` whose bus read a bus write at `a` may change (20_memory.md R70 and R67): every delegated
address after a banking write, both copies of an echo write, the OAM block after a DMA trigger, nothing in the
restricted range or in 0xA000 to 0xBFFF, else `a` itself. -/
def writeTouches (a x : Word) : Bool :=
  if a.toNat < 0x8000 then State.delegated x
  else if 0xE000 ≤ a.toNat ∧ a.toNat < 0xFE00 then decide (x = a ∨ x = a - 0x2000)
  else if 0xFEA0 ≤ a.toNat ∧ a.toNat < 0xFEFF then false
  else if a = 0xFF46 then decide (0xFE00 ≤ x.toNat ∧ x.toNat < 0xFEA0)
  else decide (x = a) && !State.delegated a

/-- The addresses an instruction writes through the bus, in order, computed on the state its handler starts in.
An instruction not named writes nothing. -/
def storesTo (i : Instr) (s : State) : List Word :=
  match i with
  | .ldMemHlD8 _ | .ldMemHliA | .ldMemHldA | .incMemHl | .decMemHl | .ldMemHlB | .ldMemHlC | .ldMemHlD
  | .ldMemHlE | .ldMemHlH | .ldMemHlL | .ldMemHlA | .rlcMemHl | .rrcMemHl | .rlMemHl | .rrMemHl | .slaMemHl
  | .sraMemHl | .swapMemHl | .srlMemHl | .res0MemHl | .res1MemHl | .res2MemHl | .res3MemHl | .res4MemHl
  | .res5MemHl | .res6MemHl | .res7MemHl | .set0MemHl | .set1MemHl | .set2MemHl | .set3MemHl | .set4MemHl
  | .set5MemHl | .set6MemHl | .set7MemHl => [s.hl]
  | .prefixCb op2 => if fieldZ op2 = 6 ∧ op2.toNat / 64 ≠ 1 then [s.hl] else []
  | .ldMemBcA => [s.bc]
  | .ldMemDeA => [s.de]
  | .ldMemA16A w => [w]
  | .ldhMemA8A n => [pageFF n]
  | .ldMemCA => [pageFF s.c]
  | .ldMemA16Sp w => [w, w + 1]
  | .callA16 _ | .pushBc | .rst00 | .rst08 | .pushDe | .rst10 | .rst18 | .pushHl | .rst20 | .rst28 | .pushAf
  | .rst30 | .rst38 => [s.sp - 1, s.sp - 1 - 1]
  | .callNzA16 _ => if s.holds .nz then [s.sp - 1, s.sp - 1 - 1] else []
  | .callZA16 _ => if s.holds .z then [s.sp - 1, s.sp - 1 - 1] else []
  | .callNcA16 _ => if s.holds .nc then [s.sp - 1, s.sp - 1 - 1] else []
  | .callCA16 _ => if s.holds .c then [s.sp - 1, s.sp - 1 - 1] else []
  | _ => []

/-- The instructions whose rules write no condition flag (41_load8.md R200, 42_load16_stack.md R240,
44_alu16.md R322 and R323, 45_rotate_shift_bit.md R355 and R356, 46_control.md R380, 47_system.md R410 to R414). -/
def keepsFlags : Instr → Bool
  | .ldBcD16 _ | .ldBD8 _ | .ldMemA16Sp _ | .ldCD8 _ | .stop _ | .ldDeD16 _ | .ldDD8 _ | .jrE8 _ | .ldED8 _
  | .jrNzE8 _ | .ldHlD16 _ | .ldHD8 _ | .jrZE8 _ | .ldLD8 _ | .jrNcE8 _ | .ldSpD16 _ | .ldMemHlD8 _ | .jrCE8 _
  | .ldAD8 _ | .jpNzA16 _ | .jpA16 _ | .callNzA16 _ | .jpZA16 _ | .callZA16 _ | .callA16 _ | .jpNcA16 _
  | .callNcA16 _ | .jpCA16 _ | .callCA16 _ | .ldhMemA8A _ | .ldMemA16A _ | .ldhAMemA8 _ | .ldAMemA16 _ | .nop
  | .ldMemBcA | .incBc | .ldAMemBc | .decBc | .ldMemDeA | .incDe | .ldAMemDe | .decDe | .ldMemHliA | .incHl
  | .ldAMemHli | .decHl | .ldMemHldA | .incSp | .ldAMemHld | .decSp | .ldBB | .ldBC | .ldBD | .ldBE | .ldBH
  | .ldBL | .ldBMemHl | .ldBA | .ldCB | .ldCC | .ldCD | .ldCE | .ldCH | .ldCL | .ldCMemHl | .ldCA | .ldDB
  | .ldDC | .ldDD | .ldDE | .ldDH | .ldDL | .ldDMemHl | .ldDA | .ldEB | .ldEC | .ldED | .ldEE | .ldEH | .ldEL
  | .ldEMemHl | .ldEA | .ldHB | .ldHC | .ldHD | .ldHE | .ldHH | .ldHL | .ldHMemHl | .ldHA | .ldLB | .ldLC
  | .ldLD | .ldLE | .ldLH | .ldLL | .ldLMemHl | .ldLA | .ldMemHlB | .ldMemHlC | .ldMemHlD | .ldMemHlE
  | .ldMemHlH | .ldMemHlL | .halt | .ldMemHlA | .ldAB | .ldAC | .ldAD | .ldAE | .ldAH | .ldAL | .ldAMemHl
  | .ldAA | .retNz | .popBc | .pushBc | .rst00 | .retZ | .ret | .rst08 | .retNc | .popDe | .pushDe | .rst10
  | .retC | .reti | .rst18 | .popHl | .ldMemCA | .pushHl | .rst20 | .jpHl | .rst28 | .ldAMemC | .di | .pushAf
  | .rst30 | .ldSpHl | .ei | .rst38 | .res0B | .res0C | .res0D | .res0E | .res0H | .res0L | .res0MemHl | .res0A
  | .res1B | .res1C | .res1D | .res1E | .res1H | .res1L | .res1MemHl | .res1A | .res2B | .res2C | .res2D
  | .res2E | .res2H | .res2L | .res2MemHl | .res2A | .res3B | .res3C | .res3D | .res3E | .res3H | .res3L
  | .res3MemHl | .res3A | .res4B | .res4C | .res4D | .res4E | .res4H | .res4L | .res4MemHl | .res4A | .res5B
  | .res5C | .res5D | .res5E | .res5H | .res5L | .res5MemHl | .res5A | .res6B | .res6C | .res6D | .res6E
  | .res6H | .res6L | .res6MemHl | .res6A | .res7B | .res7C | .res7D | .res7E | .res7H | .res7L | .res7MemHl
  | .res7A | .set0B | .set0C | .set0D | .set0E | .set0H | .set0L | .set0MemHl | .set0A | .set1B | .set1C
  | .set1D | .set1E | .set1H | .set1L | .set1MemHl | .set1A | .set2B | .set2C | .set2D | .set2E | .set2H
  | .set2L | .set2MemHl | .set2A | .set3B | .set3C | .set3D | .set3E | .set3H | .set3L | .set3MemHl | .set3A
  | .set4B | .set4C | .set4D | .set4E | .set4H | .set4L | .set4MemHl | .set4A | .set5B | .set5C | .set5D
  | .set5E | .set5H | .set5L | .set5MemHl | .set5A | .set6B | .set6C | .set6D | .set6E | .set6H | .set6L
  | .set6MemHl | .set6A | .set7B | .set7C | .set7D | .set7E | .set7H | .set7L | .set7MemHl | .set7A => true
  | .prefixCb op2 => decide (2 ≤ op2.toNat / 64)
  | _ => false

end Sys2Proof.Machine
end

