-- ==== Sys2Proof/WellFormed.lean ====
section
/-! DEFINITION. Which terms of `Instr` stand for words of the machine. -/

namespace Sys2Proof

/-- The eleven unassigned opcode bytes of the default instance (30_encoding.md R132). -/
def unassignedOpcodes : List Byte := [0xD3, 0xDB, 0xDD, 0xE3, 0xE4, 0xEB, 0xEC, 0xED, 0xF4, 0xFC, 0xFD]

/-- The one check a term needs: `unassigned` carries a byte that is unassigned (R132). Every other operand has
its exact width by its type, and no operand value is reserved (R133). -/
def Instr.wf : Instr → Bool
  | .unassigned op => unassignedOpcodes.contains op
  | _ => true

end Sys2Proof
end

