-- ==== Sys2Proof/Certificates/Slice0/Obligations.lean ====
section
/-! DEFINITION. The statements for the provers. `Executes bytes f cost` below is the form of every statement about an
instruction: which bytes it is, what its handler does to the WHOLE state (so the equation is also the frame), what
Dispatch returns. The handler's state has PC past the instruction (10_state.md R25). -/

namespace Sys2Proof.Statements

open Sys2Proof.Machine

/-- The bytes are exactly one instruction, its handler takes every state `s` to `f s`, and Dispatch returns
`cost s` for it (40_dispatch.md R163, R170). -/
def Executes (bytes : List Byte) (f : State → State) (cost : State → Nat) : Prop :=
  ∃ i : Instr, decode bytes = .ok (i, []) ∧ ∀ s : State, exec i s = .next (f s) ∧ dispatchCost i s = cost s

/-- The opcode byte with fields x, y, z (30_encoding.md R121). -/
def opByte (x y z : Nat) : Byte := BitVec.ofNat 8 (64 * x + 8 * y + z)

/-- The register field r (R122). -/
def regCode : Reg8 → Nat
  | .b => 0
  | .c => 1
  | .d => 2
  | .e => 3
  | .h => 4
  | .l => 5
  | .a => 7

/-- The operand field, 6 for (HL) (R122). -/
def operandCode : Operand8 → Nat
  | .reg r => regCode r
  | .memHl => 6

/-- The pair field p of `xx` (R123). -/
def pairCode : Reg16 → Nat
  | .bc => 0
  | .de => 1
  | .hl => 2
  | .sp => 3

/-- The pair field p of `xx2` (R123). -/
def stackCode : StackReg → Nat
  | .bc => 0
  | .de => 1
  | .hl => 2
  | .af => 3

/-- The condition field cc (R124). -/
def condCode : Cond → Nat
  | .nz => 0
  | .z => 1
  | .nc => 2
  | .c => 3

/-- The cost of a form with an 8-bit operand: `reg` for a register, `mem` for (HL). -/
def byOperand (x : Operand8) (reg mem : Nat) : State → Nat := fun _ => match x with
  | .reg _ => reg
  | .memHl => mem

/-- `A <- w` and the four flags at once. -/
def setAFlags (s : State) (w : Byte) (z n hc cy : Bool) : State :=
  { s with a := w, zero := z, sub := n, halfCarry := hc, carry := cy }

/-- The pseudocode of R271 and R273, `k` the incoming carry. -/
def added (v : Byte) (k : Nat) (s : State) : State :=
  setAFlags s (s.a + v + BitVec.ofNat 8 k) ((s.a.toNat + v.toNat + k) % 256 = 0) false
    (s.a.toNat % 16 + v.toNat % 16 + k > 15) (s.a.toNat + v.toNat + k > 255)

/-- The pseudocode of R277, `k` the incoming carry (0 for R275). -/
def subtracted (v : Byte) (k : Nat) (s : State) : State :=
  setAFlags s (s.a - v - BitVec.ofNat 8 k) (((s.a.toNat : Int) - v.toNat - k) % 256 = 0) true
    (s.a.toNat % 16 < v.toNat % 16 + k) (s.a.toNat < v.toNat + k)

/-- The two-digit BCD byte of a number below 100. -/
def bcd (n : Nat) : Byte := BitVec.ofNat 8 (n / 10 * 16 + n % 10)

/-- `IF & IE & 0x1F`, the interrupts requested and enabled (60_exceptions.md R450, R470). -/
def requested (s : State) : Byte := s.cell 0xFF0F &&& s.cell 0xFFFF &&& 0x1F

/-- A cell where a bus write is a plain store that a bus read returns: none of the special rows of 20_memory.md R70,
and not delegated (R83, and S5 of 95_test_vectors.md). -/
def plainCell (a : Word) : Prop :=
  0x8000 ≤ a.toNat ∧ State.delegated a = false ∧ (a.toNat < 0xFEA0 ∨ 0xFEFF ≤ a.toNat) ∧
    a ≠ 0xFF04 ∧ a ≠ 0xFF44 ∧ a ≠ 0xFF46

end Sys2Proof.Statements

open Sys2Proof Sys2Proof.Machine Sys2Proof.Statements

/-! ### Encoding -/

/-- 30_encoding.md R121 to R130: the bytes of every well-formed instruction, whatever follows them, decode to it
with every operand; the bytes of the row PREFIX CB decode to the extended instruction (R415; log 14). -/
def Obligations.DecodeOfEncodeGivesInstructionBack : Prop :=
  ∀ (i : Instr) (rest : List Byte), i.wf = true → decode (encode i ++ rest) = .ok (i.canonical, rest)

/-- 30_encoding.md R121 to R130: whatever bytes decode, the instruction they decode to is well-formed and has exactly
those bytes: no bit is dropped and no two instructions share bytes. That it is never the row PREFIX CB, whose bytes
decode to the extended instruction (47_system.md R415), is the model's choice (log 14). -/
def Obligations.EncodeOfDecodeGivesBytesBack : Prop :=
  ∀ (bytes rest : List Byte) (i : Instr), decode bytes = .ok (i, rest) →
    encode i ++ rest = bytes ∧ i.wf = true ∧ i.canonical = i

/-- Words written out from R128 and R130, with their operands. -/
def Obligations.WrittenOutWordsDecode : Prop :=
  decode [0b01111000] = .ok (.ldAB, []) ∧
  decode [0b00110110, 0x7F] = .ok (.ldMemHlD8 0x7F, []) ∧
  decode [0b00001000, 0x34, 0x12] = .ok (.ldMemA16Sp 0x1234, []) ∧
  decode [0b10011100] = .ok (.sbcAH, []) ∧
  decode [0b11101000, 0xFE] = .ok (.addSpE8 0xFE, []) ∧
  decode [0b11001011, 0b00010110] = .ok (.rlMemHl, []) ∧
  decode [0b11001011, 0b01111100] = .ok (.bit7H, []) ∧
  decode [0b11010100, 0x00, 0x20] = .ok (.callNcA16 0x2000, []) ∧
  decode [0b11101111] = .ok (.rst28, []) ∧
  decode [0b01110110] = .ok (.halt, []) ∧
  decode [0b11111101] = .ok (.unassigned 0xFD, [])

/-- R132: the eleven unassigned bytes are exactly the opcode bytes of cost 0, they decode to themselves, and
executing one is the fault. -/
def Obligations.UnassignedBytesAreTheElevenOfCostZero : Prop :=
  ∀ op : Byte,
    (baseCost op = 0 ↔ op ∈ [0xD3, 0xDB, 0xDD, 0xE3, 0xE4, 0xEB, 0xEC, 0xED, 0xF4, 0xFC, 0xFD]) ∧
    (baseCost op = 0 → (∀ b1 b2, decodeAt op b1 b2 = .unassigned op) ∧
      ∀ s : State, exec (.unassigned op) s = .fault (.unassignedOpcode op (s.pc - 1) s))

/-- 47_system.md R415, with the model's choice of log 14: the row PREFIX CB with second byte `op2` completes in the
state in which the instruction its two bytes decode to completes, at the same cost. -/
def Obligations.PrefixRunsTheExtendedTable : Prop :=
  ∀ (op2 : Byte) (s : State), ∃ i t, decode [0xCB, op2] = .ok (i, []) ∧
    exec (.prefixCb op2) s = .next t ∧ exec i s = .next t ∧ dispatchCost (.prefixCb op2) s = dispatchCost i s

/-! ### 8-bit loads -/

/-- R201: `LD r,r'`, all 49. -/
def Obligations.LoadRegisterFromRegister : Prop :=
  ∀ dst src : Reg8, Executes [opByte 1 (regCode dst) (regCode src)] (fun s => s.setReg dst (s.reg src)) fun _ => 4

/-- R202, R203: `LD r,(HL)` and `LD (HL),r`; the address is the HL of before. -/
def Obligations.LoadAndStoreAtHl : Prop :=
  ∀ r : Reg8,
    Executes [opByte 1 (regCode r) 6] (fun s => s.setReg r (s.readByte s.hl)) (fun _ => 8) ∧
    Executes [opByte 1 6 (regCode r)] (fun s => s.writeByte s.hl (s.reg r)) fun _ => 8

/-- R204, R205: `LD r,d8` and `LD (HL),d8`. -/
def Obligations.LoadByteImmediate : Prop :=
  ∀ n : Byte,
    (∀ r : Reg8, Executes [opByte 0 (regCode r) 6, n] (fun s => s.setReg r n) fun _ => 8) ∧
    Executes [0x36, n] (fun s => s.writeByte s.hl n) fun _ => 12

/-- R206 to R211: A loaded from and stored at (BC), (DE) and (a16), `a16` little-endian. -/
def Obligations.LoadAndStoreAThroughAddress : Prop :=
  Executes [0x0A] (fun s => { s with a := s.readByte (word s.b s.c) }) (fun _ => 8) ∧
  Executes [0x1A] (fun s => { s with a := s.readByte (word s.d s.e) }) (fun _ => 8) ∧
  Executes [0x02] (fun s => s.writeByte (word s.b s.c) s.a) (fun _ => 8) ∧
  Executes [0x12] (fun s => s.writeByte (word s.d s.e) s.a) (fun _ => 8) ∧
  ∀ lo hi : Byte,
    Executes [0xFA, lo, hi] (fun s => { s with a := s.readByte (word hi lo) }) (fun _ => 16) ∧
    Executes [0xEA, lo, hi] (fun s => s.writeByte (word hi lo) s.a) fun _ => 16

/-- R212 to R215: A loaded from and stored in page 0xFF, at 0xFF00 plus the byte a8 or C. -/
def Obligations.LoadAndStoreAInHighPage : Prop :=
  (∀ n : Byte,
    Executes [0xF0, n] (fun s => { s with a := s.readByte (0xFF00 + n.zeroExtend 16) }) (fun _ => 12) ∧
    Executes [0xE0, n] (fun s => s.writeByte (0xFF00 + n.zeroExtend 16) s.a) fun _ => 12) ∧
  Executes [0xF2] (fun s => { s with a := s.readByte (0xFF00 + s.c.zeroExtend 16) }) (fun _ => 8) ∧
  Executes [0xE2] (fun s => s.writeByte (0xFF00 + s.c.zeroExtend 16) s.a) fun _ => 8

/-- R216 to R219: the loads through HL that move HL by one afterwards, modulo 2^16. -/
def Obligations.LoadAndStoreAMovingHl : Prop :=
  Executes [0x22] (fun s => { s.writeByte s.hl s.a with hl := s.hl + 1 }) (fun _ => 8) ∧
  Executes [0x2A] (fun s => { s with a := s.readByte s.hl, hl := s.hl + 1 }) (fun _ => 8) ∧
  Executes [0x32] (fun s => { s.writeByte s.hl s.a with hl := s.hl - 1 }) (fun _ => 8) ∧
  Executes [0x3A] (fun s => { s with a := s.readByte s.hl, hl := s.hl - 1 }) fun _ => 8

/-! ### 16-bit loads and the stack -/

/-- R241 to R243: `LD rr,d16`, `LD (a16),SP`, `LD SP,HL`. That `LD (a16),SP` is little-endian and writes the low byte
first, then the high byte at the next address, is the choice of 20_memory.md R91 and D6 (log 13), not the source's. -/
def Obligations.LoadWords : Prop :=
  (∀ (p : Reg16) (lo hi : Byte),
    Executes [opByte 0 (2 * pairCode p) 1, lo, hi] (fun s => s.setReg16 p (word hi lo)) fun _ => 12) ∧
  (∀ lo hi : Byte, Executes [0x08, lo, hi]
    (fun s => (s.writeByte (word hi lo) (loByte s.sp)).writeByte (word hi lo + 1) (hiByte s.sp)) fun _ => 20) ∧
  Executes [0xF9] (fun s => { s with sp := s.hl }) fun _ => 8

/-- R244, R324: `LD HL,SP+e8` and `ADD SP,e8`: a signed displacement, the flags of the unsigned byte addition. -/
def Obligations.StackPointerPlusDisplacement : Prop :=
  ∀ e : Byte,
    Executes [0xF8, e] (fun s => { s with
      hl := s.sp + e.signExtend 16, zero := false, sub := false
      halfCarry := s.sp.toNat % 16 + e.toNat % 16 > 15, carry := s.sp.toNat % 256 + e.toNat > 255 }) (fun _ => 12) ∧
    Executes [0xE8, e] (fun s => { s with
      sp := s.sp + e.signExtend 16, zero := false, sub := false
      halfCarry := s.sp.toNat % 16 + e.toNat % 16 > 15, carry := s.sp.toNat % 256 + e.toNat > 255 }) fun _ => 16

/-- R246: `PUSH rr`: the high byte at SP-1 first, then the low byte at SP-2. That both go through the bus with its side
effects, and that SP wraps modulo 2^16, are the decisions D4 and D5 of the spec by 20_memory.md R82 (log 12). -/
def Obligations.PushWritesHighByteFirst : Prop :=
  ∀ p : StackReg, Executes [opByte 3 (2 * stackCode p) 5]
    (fun s => { (s.writeByte (s.sp - 1) (hiByte (s.stackReg p))).writeByte (s.sp - 2) (loByte (s.stackReg p)) with
      sp := s.sp - 2 }) fun _ => 16

/-- R247, with the spec's decision D3 (log 11): `POP rr`; POP AF sets the four flags from bits 7 to 4 of the popped
low byte and drops bits 3 to 0. -/
def Obligations.PopReadsLowByteFirst : Prop :=
  ∀ p : StackReg, Executes [opByte 3 (2 * stackCode p) 1]
    (fun s =>
      let lo := s.readByte s.sp
      let hi := s.readByte (s.sp + 1)
      match p with
      | .bc => { s with b := hi, c := lo, sp := s.sp + 2 }
      | .de => { s with d := hi, e := lo, sp := s.sp + 2 }
      | .hl => { s with hl := word hi lo, sp := s.sp + 2 }
      | .af => { s with
          a := hi, zero := lo.getLsbD 7, sub := lo.getLsbD 6, halfCarry := lo.getLsbD 5, carry := lo.getLsbD 4
          sp := s.sp + 2 }) fun _ => 12

/-! ### 8-bit arithmetic and logic -/

/-- R271 to R274: `ADD A,r`, `ADD A,(HL)`, `ADD A,d8`, and ADC, which adds the incoming Carry too. -/
def Obligations.AddToAccumulator : Prop :=
  (∀ x : Operand8,
    Executes [opByte 2 0 (operandCode x)] (fun s => added (s.operand x) 0 s) (byOperand x 4 8) ∧
    Executes [opByte 2 1 (operandCode x)] (fun s => added (s.operand x) (if s.carry then 1 else 0) s)
      (byOperand x 4 8)) ∧
  ∀ n : Byte,
    Executes [0xC6, n] (added n 0) (fun _ => 8) ∧
    Executes [0xCE, n] (fun s => added n (if s.carry then 1 else 0) s) fun _ => 8

/-- R275 to R278: `SUB r`, `SUB (HL)`, `SUB d8`, and SBC, which subtracts the incoming Carry too. -/
def Obligations.SubtractFromAccumulator : Prop :=
  (∀ x : Operand8,
    Executes [opByte 2 2 (operandCode x)] (fun s => subtracted (s.operand x) 0 s) (byOperand x 4 8) ∧
    Executes [opByte 2 3 (operandCode x)] (fun s => subtracted (s.operand x) (if s.carry then 1 else 0) s)
      (byOperand x 4 8)) ∧
  ∀ n : Byte,
    Executes [0xD6, n] (subtracted n 0) (fun _ => 8) ∧
    Executes [0xDE, n] (fun s => subtracted n (if s.carry then 1 else 0) s) fun _ => 8

/-- R279 to R284: AND, XOR and OR with a register, (HL) and d8. -/
def Obligations.LogicOnAccumulator : Prop :=
  (∀ x : Operand8,
    Executes [opByte 2 4 (operandCode x)] (fun s => setAFlags s (s.a &&& s.operand x)
      (s.a &&& s.operand x == 0) false true false) (byOperand x 4 8) ∧
    Executes [opByte 2 5 (operandCode x)] (fun s => setAFlags s (s.a ^^^ s.operand x)
      (s.a ^^^ s.operand x == 0) false false false) (byOperand x 4 8) ∧
    Executes [opByte 2 6 (operandCode x)] (fun s => setAFlags s (s.a ||| s.operand x)
      (s.a ||| s.operand x == 0) false false false) (byOperand x 4 8)) ∧
  ∀ n : Byte,
    Executes [0xE6, n] (fun s => setAFlags s (s.a &&& n) (s.a &&& n == 0) false true false) (fun _ => 8) ∧
    Executes [0xEE, n] (fun s => setAFlags s (s.a ^^^ n) (s.a ^^^ n == 0) false false false) (fun _ => 8) ∧
    Executes [0xF6, n] (fun s => setAFlags s (s.a ||| n) (s.a ||| n == 0) false false false) fun _ => 8

/-- R285, R286: `CP r`, `CP (HL)`, `CP d8`: the flags of the subtraction, A unchanged. Which argument of Compare is the
accumulator, and so the direction of Carry and HalfCarry, is the spec's decision D24 (log 20); R285 marks it so. -/
def Obligations.CompareWithAccumulator : Prop :=
  (∀ x : Operand8, Executes [opByte 2 7 (operandCode x)]
    (fun s => setAFlags s s.a (s.a == s.operand x) true
      (s.a.toNat % 16 < (s.operand x).toNat % 16) (s.a.toNat < (s.operand x).toNat)) (byOperand x 4 8)) ∧
  ∀ n : Byte, Executes [0xFE, n]
    (fun s => setAFlags s s.a (s.a == n) true (s.a.toNat % 16 < n.toNat % 16) (s.a.toNat < n.toNat)) fun _ => 8

/-- R173: `Compare(x, y)` sets the four flags from the pair alone, and F is their packing with a zero low nibble;
no other field of the state changes. -/
def Obligations.CompareSetsFlagsFromThePair : Prop :=
  ∀ (s : State) (x y : Byte),
    s.compare x y = { s with
      zero := decide (x = y), sub := true
      halfCarry := decide (y.toNat % 16 < x.toNat % 16), carry := decide (y.toNat < x.toNat) } ∧
    (s.compare x y).f.toNat = (if x = y then 0x80 else 0) + 0x40 +
      (if y.toNat % 16 < x.toNat % 16 then 0x20 else 0) + (if y.toNat < x.toNat then 0x10 else 0)

/-- R287 to R290: INC and DEC of a register and of (HL): the write back, then Zero, Sub and HalfCarry from the value
computed; Carry not written. -/
def Obligations.IncrementAndDecrementByte : Prop :=
  ∀ x : Operand8,
    Executes [opByte 0 (operandCode x) 4] (fun s => { s.setOperand x (s.operand x + 1) with
      zero := s.operand x = 0xFF, sub := false, halfCarry := (s.operand x).toNat % 16 = 15 }) (byOperand x 4 12) ∧
    Executes [opByte 0 (operandCode x) 5] (fun s => { s.setOperand x (s.operand x - 1) with
      zero := s.operand x = 0x01, sub := true, halfCarry := (s.operand x).toNat % 16 = 0 }) (byOperand x 4 12)

/-- R291: DAA, both branches, on every A and all flags. -/
def Obligations.DecimalAdjustAccumulator : Prop :=
  Executes [0x27] (fun s =>
    let six : Byte := if s.halfCarry ∨ (s.sub = false ∧ s.a.toNat % 16 > 9) then 0x06 else 0
    let sixty : Byte := if s.carry ∨ (s.sub = false ∧ s.a.toNat > 0x99) then 0x60 else 0
    let w := if s.sub then s.a - six - sixty else s.a + six + sixty
    { s with
      a := w, zero := w == 0, halfCarry := false
      carry := s.carry || (!s.sub && decide (s.a.toNat > 0x99)) }) fun _ => 4

/-- From R272, R276 and R291 (95_test_vectors.md P4): on two-digit BCD numbers, ADD then DAA gives the BCD sum modulo 100
with Carry for 100 or more, and SUB then DAA the BCD difference modulo 100 with Carry for a borrow. -/
def Obligations.DecimalAdjustGivesDecimalSums : Prop :=
  ∀ (s : State) (x y : Nat), x < 100 → y < 100 → s.a = bcd x →
    (∃ t u, exec (.addAD8 (bcd y)) s = .next t ∧ exec .daa t = .next u ∧ u.a = bcd ((x + y) % 100) ∧
      u.carry = decide (100 ≤ x + y) ∧ u.zero = decide ((x + y) % 100 = 0)) ∧
    (∃ t u, exec (.subD8 (bcd y)) s = .next t ∧ exec .daa t = .next u ∧ u.a = bcd ((100 + x - y) % 100) ∧
      u.carry = decide (x < y) ∧ u.zero = decide (x = y))

/-- R292 to R294: CPL, SCF, CCF. -/
def Obligations.ComplementAndCarryFlagInstructions : Prop :=
  Executes [0x2F] (fun s => { s with a := ~~~s.a, sub := true, halfCarry := true }) (fun _ => 4) ∧
  Executes [0x37] (fun s => { s with sub := false, halfCarry := false, carry := true }) (fun _ => 4) ∧
  Executes [0x3F] (fun s => { s with sub := false, halfCarry := false, carry := !s.carry }) fun _ => 4

/-! ### 16-bit arithmetic -/

/-- R321: `ADD HL,rr`: HalfCarry out of bit 11, Carry out of bit 15, Zero unchanged. -/
def Obligations.AddPairToHl : Prop :=
  ∀ p : Reg16, Executes [opByte 0 (2 * pairCode p + 1) 1] (fun s => { s with
    hl := s.hl + s.reg16 p, sub := false
    halfCarry := s.hl.toNat % 4096 + (s.reg16 p).toNat % 4096 > 4095
    carry := s.hl.toNat + (s.reg16 p).toNat > 65535 }) fun _ => 8

/-- R322, R323: `INC rr` and `DEC rr`, modulo 2^16, no flag. -/
def Obligations.IncrementAndDecrementPair : Prop :=
  ∀ p : Reg16,
    Executes [opByte 0 (2 * pairCode p) 3] (fun s => s.setReg16 p (s.reg16 p + 1)) (fun _ => 8) ∧
    Executes [opByte 0 (2 * pairCode p + 1) 3] (fun s => s.setReg16 p (s.reg16 p - 1)) fun _ => 8

/-! ### Rotates, shifts, bit operations -/

/-- R341 to R344: RLCA, RLA, RRCA, RRA: bit by bit, Zero always cleared, Carry the bit that leaves A. -/
def Obligations.RotateAccumulator : Prop :=
  Executes [0x07] (fun s => setAFlags s (s.a.rotateLeft 1) false false false (s.a.getLsbD 7)) (fun _ => 4) ∧
  Executes [0x17] (fun s => setAFlags s (s.a <<< 1 ||| (if s.carry then 1 else 0)) false false false (s.a.getLsbD 7))
    (fun _ => 4) ∧
  Executes [0x0F] (fun s => setAFlags s (s.a.rotateRight 1) false false false (s.a.getLsbD 0)) (fun _ => 4) ∧
  Executes [0x1F] (fun s => setAFlags s (s.a >>> 1 ||| (if s.carry then 0x80 else 0)) false false false (s.a.getLsbD 0))
    fun _ => 4

/-- R346 to R353: RLC, RRC, RL, RR, SLA, SRA, SWAP, SRL of a register or (HL): one read, one write back, Zero from
the result, Sub and HalfCarry cleared, Carry the bit that leaves (cleared by SWAP). -/
def Obligations.RotateAndShiftOperand : Prop :=
  ∀ x : Operand8,
    let form := fun (y : Nat) (w : State → Byte) (cy : State → Bool) =>
      Executes [0xCB, opByte 0 y (operandCode x)] (fun s => { s.setOperand x (w s) with
        zero := w s == 0, sub := false, halfCarry := false, carry := cy s }) (byOperand x 8 16)
    form 0 (fun s => (s.operand x).rotateLeft 1) (fun s => (s.operand x).getLsbD 7) ∧
    form 1 (fun s => (s.operand x).rotateRight 1) (fun s => (s.operand x).getLsbD 0) ∧
    form 2 (fun s => s.operand x <<< 1 ||| (if s.carry then 1 else 0)) (fun s => (s.operand x).getLsbD 7) ∧
    form 3 (fun s => s.operand x >>> 1 ||| (if s.carry then 0x80 else 0)) (fun s => (s.operand x).getLsbD 0) ∧
    form 4 (fun s => s.operand x <<< 1) (fun s => (s.operand x).getLsbD 7) ∧
    form 5 (fun s => (s.operand x).sshiftRight 1) (fun s => (s.operand x).getLsbD 0) ∧
    form 6 (fun s => (s.operand x).rotateLeft 4) (fun _ => false) ∧
    form 7 (fun s => s.operand x >>> 1) (fun s => (s.operand x).getLsbD 0)

/-- R354: `BIT b,r` and `BIT b,(HL)`: flags only, Carry unchanged, nothing written back. -/
def Obligations.TestBit : Prop :=
  ∀ (b : Fin 8) (x : Operand8), Executes [0xCB, opByte 1 b.val (operandCode x)]
    (fun s => { s with zero := !(s.operand x).getLsbD b.val, sub := false, halfCarry := true }) (byOperand x 8 12)

/-- R355, R356: RES and SET: the value written back is the operand with bit b cleared or set and every other bit
as it was; no flag. -/
def Obligations.ResetAndSetBit : Prop :=
  ∀ (b : Fin 8) (x : Operand8), ∃ res set : Byte → Byte,
    Executes [0xCB, opByte 2 b.val (operandCode x)] (fun s => s.setOperand x (res (s.operand x))) (byOperand x 8 16) ∧
    Executes [0xCB, opByte 3 b.val (operandCode x)] (fun s => s.setOperand x (set (s.operand x))) (byOperand x 8 16) ∧
    ∀ (v : Byte) (k : Fin 8),
      (res v).getLsbD k.val = (if k = b then false else v.getLsbD k.val) ∧
      (set v).getLsbD k.val = (if k = b then true else v.getLsbD k.val)

/-! ### Control transfer -/

/-- R381 to R383: JP a16, JP cc,a16, JP (HL): a condition that does not hold leaves PC past the instruction. -/
def Obligations.JumpAbsolute : Prop :=
  (∀ lo hi : Byte,
    Executes [0xC3, lo, hi] (fun s => { s with pc := word hi lo }) (fun _ => 16) ∧
    ∀ cc : Cond, Executes [opByte 3 (condCode cc) 2, lo, hi]
      (fun s => if s.holds cc then { s with pc := word hi lo } else s) fun s => if s.holds cc then 16 else 12) ∧
  Executes [0xE9] (fun s => { s with pc := s.hl }) fun _ => 4

/-- R384, R385: JR e8 and JR cc,e8: from the address past the instruction, sign-extended, modulo 2^16. -/
def Obligations.JumpRelative : Prop :=
  ∀ e : Byte,
    Executes [0x18, e] (fun s => { s with pc := s.pc + e.signExtend 16 }) (fun _ => 12) ∧
    ∀ cc : Cond, Executes [opByte 0 (condCode cc + 4) 0, e]
      (fun s => if s.holds cc then { s with pc := s.pc + e.signExtend 16 } else s)
      fun s => if s.holds cc then 12 else 8

/-- R386, R387, R389: CALL a16, CALL cc,a16 and RST t: the address past the instruction is pushed, high byte at SP-1
first, then PC is the target; a condition that does not hold touches neither SP nor memory. -/
def Obligations.CallAndRestart : Prop :=
  let called := fun (target : Word) (s : State) =>
    { (s.writeByte (s.sp - 1) (hiByte s.pc)).writeByte (s.sp - 2) (loByte s.pc) with sp := s.sp - 2, pc := target }
  (∀ lo hi : Byte,
    Executes [0xCD, lo, hi] (called (word hi lo)) (fun _ => 24) ∧
    ∀ cc : Cond, Executes [opByte 3 (condCode cc) 4, lo, hi]
      (fun s => if s.holds cc then called (word hi lo) s else s) fun s => if s.holds cc then 24 else 12) ∧
  ∀ t : Fin 8, Executes [opByte 3 t.val 7] (called (BitVec.ofNat 16 (8 * t.val))) fun _ => 16

/-- R390, R391: RET and RET cc. -/
def Obligations.ReturnPopsTheCounter : Prop :=
  let returned := fun (s : State) =>
    { s with pc := word (s.readByte (s.sp + 1)) (s.readByte s.sp), sp := s.sp + 2 }
  Executes [0xC9] returned (fun _ => 16) ∧
  ∀ cc : Cond, Executes [opByte 3 (condCode cc) 0] (fun s => if s.holds cc then returned s else s)
    fun s => if s.holds cc then 20 else 8

/-- R388, with the spec's decision D19 (log 19): RETI pops PC and sets InterruptMaster at once; the pending flags
are not touched. -/
def Obligations.ReturnFromInterruptEnablesAtOnce : Prop :=
  Executes [0xD9] (fun s => { s with
    pc := word (s.readByte (s.sp + 1)) (s.readByte s.sp), sp := s.sp + 2, ime := true }) fun _ => 16

/-! ### System -/

/-- R410: NOP changes nothing but the PC that Fetch advanced. -/
def Obligations.NoOperationChangesNothing : Prop := Executes [0x00] (fun s => s) fun _ => 4

/-- 47_system.md R411 under the spec's decision D17 (log 5) and R412 under the model's choice `STOP_MODE = nop`
(DESIGN CHOICE, log 4; the spec's own default refuses): HALT sets the latch and nothing else, STOP changes nothing. -/
def Obligations.HaltLatchesAndStopGoesOn : Prop :=
  Executes [0x76] (fun s => { s with halted := true }) (fun _ => 4) ∧
  ∀ n : Byte, Executes [0x10, n] (fun s => s) fun _ => 4

/-- 40_dispatch.md R168 and 47_system.md R413, R414, with the opcode bytes of the spec's decision D2 (log 9): DI and EI
set their own pending flag and nothing else. -/
def Obligations.DisableAndEnableOnlySetPending : Prop :=
  Executes [0xF3] (fun s => { s with pendingDisable := true }) (fun _ => 4) ∧
  Executes [0xFB] (fun s => { s with pendingEnable := true }) fun _ => 4

/-- R440: dispatching an unassigned byte is the fault, with the byte, the pre-fetch PC, and a state that differs
from the one before only in PC. -/
def Obligations.UnassignedOpcodeIsFatal : Prop :=
  ∀ s : State, baseCost (s.readByte s.pc) = 0 →
    dispatch s = .fault (.unassignedOpcode (s.readByte s.pc) s.pc { s with pc := s.pc + 1 })

/-! ### The machine -/

/-- 40_dispatch.md R160: a step is the host's part of the boundary, then, where the core is not halted and the bytes at
PC decode to `i`, `exec i` with PC past the instruction, then the deferred check, then the returned cost.
The host's part is that of 60_exceptions.md R455 and R470: one listed boundary is consumed, its writes made in their
order, then ServiceInterrupt if asked, then the wake if asked. An empty list is a quiet boundary (log 6), which changes
nothing where the core is not halted. The three bytes at PC are read at once (log 18). -/
def Obligations.StepRunsTheDecodedInstruction : Prop :=
  ∀ (s : State) (i : Instr) (rest : List Byte),
    let u := s.afterHost
    (s.host = [] → s.halted = false → u = s) ∧
    (∀ (bd : Boundary) (later : List Boundary), s.host = bd :: later →
      let written := bd.writes.foldl State.hostWrite { s with host := later }
      let served := if bd.service then written.serviceInterrupt else written
      u = if bd.wake = true ∧ requested served ≠ 0 then { served with halted := false } else served) ∧
    (u.halted = false → decode [u.readByte u.pc, u.readByte (u.pc + 1), u.readByte (u.pc + 2)] = .ok (i, rest) →
      step s =
        let before := { u with pc := u.pc + BitVec.ofNat 16 (3 - rest.length) }
        match exec i before with
        | .next t => .next { t.deferredCheck (u.readByte u.pc) with cycles := dispatchCost i before }
        | .fault r => .fault r
        | .refused r => .refused r)

/-- 60_exceptions.md R470 (the spec's decision D17; logs 5 and 6): a core still halted after the host's part of a
boundary makes no Dispatch call, whatever the host did there. With no host input a halted core waits while no enabled
interrupt is requested, and dispatches as soon as one is, whatever InterruptMaster is. -/
def Obligations.HaltedCoreWaitsForARequest : Prop :=
  ∀ s : State,
    (s.afterHost.halted = true → step s = .next s.afterHost) ∧
    (s.host = [] → s.halted = true →
      (requested s = 0 → step s = .next s) ∧
      (requested s ≠ 0 → step s = dispatch { s with halted := false }))

/-- 40_dispatch.md R167 to R171 (the spec's decisions D2, D13, D14; logs 9 and 10), over every instruction at once:
after a Dispatch call PendingInterruptDisabled is set exactly when the opcode byte was DI's and PendingInterruptEnabled
exactly when it was EI's; InterruptMaster follows the pending flags of before, disable first, then enable. Otherwise
RETI sets it, at once (46_control.md R388, the spec's decision D19, log 19), and no other instruction changes it
(10_state.md R29). -/
def Obligations.DeferredInterruptProtocol : Prop :=
  ∀ s t : State, dispatch s = .next t →
    t.pendingDisable = decide (s.readByte s.pc = 0xF3) ∧
    t.pendingEnable = decide (s.readByte s.pc = 0xFB) ∧
    t.ime =
      if s.pendingEnable = true ∧ s.readByte s.pc ≠ 0xFB then true
      else if s.pendingDisable = true ∧ s.readByte s.pc ≠ 0xF3 then false
      else if s.readByte s.pc = 0xD9 then true
      else s.ime

/-- R42: the registers and flags at power-on. -/
def Obligations.PowerOnRegisters : Prop :=
  State.reset.a = 0x01 ∧ State.reset.f = 0xB0 ∧ State.reset.bc = 0x0013 ∧ State.reset.de = 0x00D8 ∧
  State.reset.hl = 0x014D ∧ State.reset.pc = 0x0100 ∧ State.reset.sp = 0xFFFE ∧ State.reset.zero = true ∧
  State.reset.halfCarry = true ∧ State.reset.carry = true ∧ State.reset.sub = false ∧ State.reset.ime = false

/-- R43 to R46 with the spec's decision D29 (log 17): the 32 bytes at power-on, read through the bus; the cells below
0x8000 hold the cartridge's image as far as it reaches, then the unstated fill (free values, logs 1 and 3); both pending
flags and Halted are off; no banking write and no timer notice has happened. -/
def Obligations.PowerOnBytes : Prop :=
  (∀ p ∈ ([(0xFF05, 0x00), (0xFF06, 0x00), (0xFF07, 0x00), (0xFF0F, 0xE1), (0xFF10, 0x80), (0xFF11, 0xBF),
      (0xFF12, 0xF3), (0xFF14, 0xBF), (0xFF16, 0x3F), (0xFF17, 0x00), (0xFF19, 0xBF), (0xFF1A, 0x7F),
      (0xFF1B, 0xFF), (0xFF1C, 0x9F), (0xFF1E, 0xBF), (0xFF20, 0xFF), (0xFF21, 0x00), (0xFF22, 0x00),
      (0xFF23, 0xBF), (0xFF24, 0x77), (0xFF25, 0xF3), (0xFF26, 0xF1), (0xFF40, 0x91), (0xFF42, 0x00),
      (0xFF43, 0x00), (0xFF45, 0x00), (0xFF47, 0xFC), (0xFF48, 0xFF), (0xFF49, 0xFF), (0xFF4A, 0x00),
      (0xFF4B, 0x00), (0xFFFF, 0x00)] : List (Word × Byte)), State.reset.readByte p.1 = p.2) ∧
  (∀ a : Word, a.toNat < 0x8000 → State.reset.cell a =
    if a.toNat < Config.romLength then Config.readRom a.toNat else Config.memInitFill a.toNat) ∧
  State.reset.pendingDisable = false ∧ State.reset.pendingEnable = false ∧ State.reset.halted = false ∧
  State.reset.cart.writes = [] ∧ State.reset.timerNotices = []

/-- 10_state.md R22, R23, R27 (the spec's decisions D3, D27; logs 11 and 23) and 30_encoding.md R122 to R124: the register
views and the operand forms. A register or pair written reads back, no other changes, and nothing else of the state does;
H and L are the halves of HL; F has the four flags in bits 7 to 4 and zeros below; a write of F keeps bits 7 to 4 and
changes nothing but the flags; the pairs have their first-named register high; the operand (HL) is one bus access. -/
def Obligations.RegisterViewsAgree : Prop :=
  ∀ s : State,
    (∀ (r : Reg8) (v : Byte),
      (∀ q : Reg8, (s.setReg r v).reg q = if q = r then v else s.reg q) ∧
      (let t := s.setReg r v; t = { s with a := t.a, b := t.b, c := t.c, d := t.d, e := t.e, hl := t.hl })) ∧
    s.reg .a = s.a ∧ s.reg .b = s.b ∧ s.reg .c = s.c ∧ s.reg .d = s.d ∧ s.reg .e = s.e ∧
    s.hl.toNat = (s.reg .h).toNat * 256 + (s.reg .l).toNat ∧
    (∀ (p : Reg16) (w : Word),
      (∀ q : Reg16, (s.setReg16 p w).reg16 q = if q = p then w else s.reg16 q) ∧
      (let t := s.setReg16 p w; t = { s with b := t.b, c := t.c, d := t.d, e := t.e, hl := t.hl, sp := t.sp })) ∧
    s.reg16 .hl = s.hl ∧ s.reg16 .sp = s.sp ∧ (s.reg16 .bc).toNat = s.b.toNat * 256 + s.c.toNat ∧
    (s.reg16 .de).toNat = s.d.toNat * 256 + s.e.toNat ∧
    s.stackReg .bc = s.bc ∧ s.stackReg .de = s.de ∧ s.stackReg .hl = s.hl ∧ s.stackReg .af = s.af ∧
    s.bc = s.reg16 .bc ∧ s.de = s.reg16 .de ∧ s.af.toNat = s.a.toNat * 256 + s.f.toNat ∧
    s.f.getLsbD 7 = s.zero ∧ s.f.getLsbD 6 = s.sub ∧ s.f.getLsbD 5 = s.halfCarry ∧ s.f.getLsbD 4 = s.carry ∧
    s.f &&& 0x0F = 0 ∧
    (∀ v : Byte, (s.setF v).f = v &&& 0xF0 ∧
      (let t := s.setF v; t = { s with zero := t.zero, sub := t.sub, halfCarry := t.halfCarry, carry := t.carry })) ∧
    (∀ (r : Reg8) (v : Byte), s.operand (.reg r) = s.reg r ∧ s.setOperand (.reg r) v = s.setReg r v) ∧
    s.operand .memHl = s.readByte s.hl ∧ (∀ v : Byte, s.setOperand .memHl v = s.writeByte s.hl v) ∧
    s.holds .nz = !s.zero ∧ s.holds .z = s.zero ∧ s.holds .nc = !s.carry ∧ s.holds .c = s.carry

/-- R67: a bus read goes to the cartridge, with the bus address unchanged, in the two delegated ranges, and is the
array's byte everywhere else, echo RAM included. -/
def Obligations.BusReadRouting : Prop :=
  ∀ (s : State) (a : Word),
    (0x4000 ≤ a.toNat ∧ a.toNat ≤ 0x7FFF ∨ 0xA000 ≤ a.toNat ∧ a.toNat ≤ 0xBFFF →
      s.readByte a = s.readRomBank a) ∧
    (¬ (0x4000 ≤ a.toNat ∧ a.toNat ≤ 0x7FFF ∨ 0xA000 ≤ a.toNat ∧ a.toNat ≤ 0xBFFF) → s.readByte a = s.cell a)

/-- 20_memory.md R70, rows 1 to 5 and 8 (R71 to R76, R78, with the spec's decisions D8, D9; logs 8 and 22): where a bus
write goes, cell by cell of the array, that the cartridge hears of it only below 0x8000 and the scheduler not at all. What
a bus write leaves of the rest of the state is in BusWriteFrame. -/
def Obligations.BusWriteRows : Prop :=
  ∀ (s : State) (a x : Word) (v : Byte),
    (a.toNat < 0x8000 → s.writeByte a v = { s with cart := { s.cart with writes := (a, v) :: s.cart.writes } }) ∧
    (0xE000 ≤ a.toNat → a.toNat < 0xFE00 →
      (s.writeByte a v).cell x = (if x = a ∨ x = a - 0x2000 then v else s.cell x) ∧
      (s.writeByte a v).cart = s.cart ∧
      (s.writeByte a v).timerNotices = s.timerNotices) ∧
    (0xFEA0 ≤ a.toNat → a.toNat < 0xFEFF → s.writeByte a v = s) ∧
    (a = 0xFF04 ∨ a = 0xFF44 →
      (s.writeByte a v).cell x = (if x = a then 0 else s.cell x) ∧ (s.writeByte a v).cart = s.cart ∧
      (s.writeByte a v).timerNotices = s.timerNotices) ∧
    (0x8000 ≤ a.toNat ∧ (a.toNat < 0xE000 ∨ 0xFE00 ≤ a.toNat) ∧ (a.toNat < 0xFEA0 ∨ 0xFEFF ≤ a.toNat) ∧
        a ∉ ([0xFF04, 0xFF44, 0xFF46, 0xFF07] : List Word) →
      (s.writeByte a v).cell x = (if x = a then v else s.cell x) ∧ (s.writeByte a v).cart = s.cart ∧
      (s.writeByte a v).timerNotices = s.timerNotices)

/-- 20_memory.md R77, R85, R86: a write to 0xFF46 copies 160 bytes read before the transfer from the page, leaves every
other read as it was (0xFF46 itself included), and neither the cartridge nor the scheduler hears of it. -/
def Obligations.DmaCopiesThePage : Prop :=
  ∀ (s : State) (page : Byte),
    (∀ i : Nat, i < 0xA0 → (s.writeByte 0xFF46 page).readByte (0xFE00 + BitVec.ofNat 16 i) =
      s.readByte (word page 0 + BitVec.ofNat 16 i)) ∧
    (∀ x : Word, x.toNat < 0xFE00 ∨ 0xFEA0 ≤ x.toNat → (s.writeByte 0xFF46 page).readByte x = s.readByte x) ∧
    (s.writeByte 0xFF46 page).cart = s.cart ∧ (s.writeByte 0xFF46 page).timerNotices = s.timerNotices

/-- 20_memory.md R79 (ClockFreq by the spec's decision D12; the notice list is the model's, log 7): a write to 0xFF07
stores the byte and notifies the scheduler exactly when bits 1 to 0 change. -/
def Obligations.TimerControlNotifiesOnChange : Prop :=
  ∀ (s : State) (v : Byte) (x : Word),
    (s.writeByte 0xFF07 v).cell x = (if x = 0xFF07 then v else s.cell x) ∧
    (s.writeByte 0xFF07 v).cart = s.cart ∧
    (s.writeByte 0xFF07 v).timerNotices =
      if (s.cell 0xFF07).toNat % 4 = v.toNat % 4 then s.timerNotices else v :: s.timerNotices

/-- 20_memory.md R70 with R67: a bus write changes no bus read outside the addresses it touches, and no field of the
state but the array, the cartridge and the timer notices: no register, flag, interrupt bit, latch, cost or host input.
That a write to 0xA000 to 0xBFFF touches no bus read is the model's `EXTRAM_WRITE_DELEGATED = false` (D8, log 8), and
that 0xFEFE is the last discarded address is the spec's decision D9 (log 22). -/
def Obligations.BusWriteFrame : Prop :=
  ∀ (s : State) (a : Word) (v : Byte),
    (∀ x : Word, writeTouches a x = false → (s.writeByte a v).readByte x = s.readByte x) ∧
    (let t := s.writeByte a v; t = { s with mem := t.mem, cart := t.cart, timerNotices := t.timerNotices })

/-- The frame of memory for EVERY instruction (R200, R240, R246, R354 and the store rules): what `storesTo` gives are
the addresses it writes through the bus, and a read at an address none of those writes touches is as before. An
instruction for which `storesTo` is empty leaves every read as it was. The addresses touched rest on logs 8 and 22, and
those of PUSH, CALL and RST on log 12 (the bus and the wrap of SP). -/
def Obligations.InstructionMemoryFrame : Prop :=
  ∀ (i : Instr) (s t : State) (x : Word), exec i s = .next t →
    (∀ a ∈ storesTo i s, writeTouches a x = false) → t.readByte x = s.readByte x

/-- The frame of the flags (10_state.md R28; R200, R240, R322, R323, R355, R356, R380, R410 to R414): the instructions
`keepsFlags` names leave the four condition flags, and so F, as they were. -/
def Obligations.InstructionFlagFrame : Prop :=
  ∀ (i : Instr) (s t : State), keepsFlags i = true → exec i s = .next t →
    t.zero = s.zero ∧ t.sub = s.sub ∧ t.halfCarry = s.halfCarry ∧ t.carry = s.carry

/-- The frame of the interrupt state over every instruction (10_state.md R29, R30, R33): handlers write each bit only
in the one instruction named, and no handler touches the host's inputs, the returned cost or the cartridge's own
cells. -/
def Obligations.InstructionSystemFrame : Prop :=
  ∀ (i : Instr) (s t : State), exec i s = .next t →
    (i ≠ .reti → t.ime = s.ime) ∧ (i ≠ .di → t.pendingDisable = s.pendingDisable) ∧
    (i ≠ .ei → t.pendingEnable = s.pendingEnable) ∧ (i ≠ .halt → t.halted = s.halted) ∧
    t.host = s.host ∧ t.cycles = s.cycles ∧ t.cart.fixed = s.cart.fixed

/-- 60_exceptions.md R443, R444: every instruction but the unassigned opcodes completes in every state, and a step
either completes or ends in that one fault; it is never refused. -/
def Obligations.OnlyUnassignedOpcodesFault : Prop :=
  (∀ (i : Instr) (s : State), (∃ t, exec i s = .next t) ∨ ∃ op, i = .unassigned op) ∧
  ∀ s : State, (∃ t, step s = .next t) ∨ ∃ op pc0 u, step s = .fault (.unassignedOpcode op pc0 u)

/-- 20_memory.md R82, R83 (S5 of 95_test_vectors.md): where the two pushed bytes land on cells that store what is written
and read what is stored, a pop after a push gives the word back; SP is restored for every SP. -/
def Obligations.StackRoundTrip : Prop :=
  ∀ (s : State) (w : Word),
    (s.stackPush w).stackDrop.sp = s.sp ∧
    (plainCell (s.sp - 1) → plainCell (s.sp - 2) → (s.stackPush w).stackTop = w)

/-- 60_exceptions.md R450 to R452 (the spec's decision D15; log 6): taking an interrupt. Where InterruptMaster is on and
bit i is the lowest requested and enabled, InterruptMaster goes off, the request bit is cleared, PC is pushed and set
to 0x0040 + 8 i, Halted is lifted, and nothing else changes; otherwise the host cannot take it. -/
def Obligations.ServiceInterruptTakesTheLowest : Prop :=
  ∀ s : State,
    (∀ i : Fin 5, s.ime = true → (∀ j : Fin 5, j < i → (s.cell 0xFF0F &&& s.cell 0xFFFF).getLsbD j.val = false) →
      (s.cell 0xFF0F &&& s.cell 0xFFFF).getLsbD i.val = true →
      s.serviceInterrupt =
        let u := (({ s with ime := false } : State).storeCell 0xFF0F
          (s.cell 0xFF0F &&& ~~~(BitVec.ofNat 8 (2 ^ i.val)))).stackPush s.pc
        { u with pc := BitVec.ofNat 16 (0x40 + 8 * i.val), halted := false }) ∧
    (s.ime = false ∨ (∀ j : Fin 5, (s.cell 0xFF0F &&& s.cell 0xFFFF).getLsbD j.val = false) →
      s.serviceInterrupt = s)

/-- 60_exceptions.md R461 (the spec's decision D16; log 6): a host write stores its byte in the cell where that is one of
0xFF00 to 0xFF7F, changes no other cell, and nothing else of the state. -/
def Obligations.HostWriteStaysInItsRange : Prop :=
  ∀ (s : State) (a x : Word) (v : Byte),
    (s.hostWrite (a, v)).cell x = (if x = a ∧ 0xFF00 ≤ a.toNat ∧ a.toNat ≤ 0xFF7F then v else s.cell x) ∧
    s.hostWrite (a, v) = { s with mem := (s.hostWrite (a, v)).mem }

/-- 10_state.md R31 and the canonical form of memory: from every state that meets the invariant, a step gives a state
that meets it. -/
def Obligations.StepKeepsTheInvariant : Prop :=
  ∀ s t : State, s.inv = true → step s = .next t → t.inv = true

/-- The invariant holds at power-on. -/
def Obligations.PowerOnMeetsTheInvariant : Prop := State.reset.inv = true

/-- 10_state.md R36, 20_memory.md R71, R73, R100 (the spec's own derivations): no step, whatever the instruction and
whatever the host does, changes a cell of the array below 0x8000 or in the restricted range 0xFEA0 to 0xFEFE. -/
def Obligations.RomAndRestrictedCellsNeverChange : Prop :=
  ∀ (s t : State) (x : Word), step s = .next t →
    x.toNat < 0x8000 ∨ (0xFEA0 ≤ x.toNat ∧ x.toNat < 0xFEFF) → t.cell x = s.cell x
end

