-- ==== Sys2Proof/Laws/State.lean ====
section
/-! SUPPORT. What each update of the state leaves alone, one lemma per field per update, and what it sets. -/

namespace Sys2Proof.Machine

theorem State.writePlain_eq (s : State) (x : Word) (v : Byte) :
    s.writePlain x v = { s with
      mem := (s.writePlain x v).mem
      cart := (s.writePlain x v).cart
      timerNotices := (s.writePlain x v).timerNotices } := by
  unfold State.writePlain; split <;> rfl

theorem State.writeTimerControl_eq (s : State) (v : Byte) :
    s.writeTimerControl v = { s with
      mem := (s.writeTimerControl v).mem
      cart := (s.writeTimerControl v).cart
      timerNotices := (s.writeTimerControl v).timerNotices } := by
  unfold State.writeTimerControl; dsimp only; split <;> rfl

theorem State.writeInner_eq (s : State) (x : Word) (v : Byte) :
    s.writeInner x v = { s with
      mem := (s.writeInner x v).mem
      cart := (s.writeInner x v).cart
      timerNotices := (s.writeInner x v).timerNotices } := by
  unfold State.writeInner
  repeat' split
  all_goals first | exact State.writeTimerControl_eq s v | rfl

theorem State.dmaCopy_eq (base : Word) (n : Nat) (s : State) :
    State.dmaCopy base n s = { s with
      mem := (State.dmaCopy base n s).mem
      cart := (State.dmaCopy base n s).cart
      timerNotices := (State.dmaCopy base n s).timerNotices } := by
  induction n with
  | zero => rfl
  | succ n ih =>
    unfold State.dmaCopy
    dsimp only
    rw [State.writeInner_eq, ih]

theorem State.dmaTransfer_eq (s : State) (v : Byte) :
    s.dmaTransfer v = { s with
      mem := (s.dmaTransfer v).mem
      cart := (s.dmaTransfer v).cart
      timerNotices := (s.dmaTransfer v).timerNotices } := State.dmaCopy_eq _ _ s

/-- A bus write changes the array, the cartridge and the timer notices at most. -/
theorem State.writeByte_eq (s : State) (x : Word) (v : Byte) :
    s.writeByte x v = { s with
      mem := (s.writeByte x v).mem
      cart := (s.writeByte x v).cart
      timerNotices := (s.writeByte x v).timerNotices } := by
  unfold State.writeByte
  split
  · rfl
  split
  · rw [State.writeInner_eq]; rfl
  split
  · rfl
  split
  · rfl
  split
  · rfl
  split
  · exact State.dmaTransfer_eq s v
  split
  · exact State.writeTimerControl_eq s v
  · exact State.writePlain_eq s x v

@[simp] theorem State.storeCell_a (s : State) (x : Word) (v : Byte) : (s.storeCell x v).a = s.a := rfl
@[simp] theorem State.storeCell_b (s : State) (x : Word) (v : Byte) : (s.storeCell x v).b = s.b := rfl
@[simp] theorem State.storeCell_c (s : State) (x : Word) (v : Byte) : (s.storeCell x v).c = s.c := rfl
@[simp] theorem State.storeCell_d (s : State) (x : Word) (v : Byte) : (s.storeCell x v).d = s.d := rfl
@[simp] theorem State.storeCell_e (s : State) (x : Word) (v : Byte) : (s.storeCell x v).e = s.e := rfl
@[simp] theorem State.storeCell_hl (s : State) (x : Word) (v : Byte) : (s.storeCell x v).hl = s.hl := rfl
@[simp] theorem State.storeCell_sp (s : State) (x : Word) (v : Byte) : (s.storeCell x v).sp = s.sp := rfl
@[simp] theorem State.storeCell_pc (s : State) (x : Word) (v : Byte) : (s.storeCell x v).pc = s.pc := rfl
@[simp] theorem State.storeCell_zero (s : State) (x : Word) (v : Byte) : (s.storeCell x v).zero = s.zero := rfl
@[simp] theorem State.storeCell_sub (s : State) (x : Word) (v : Byte) : (s.storeCell x v).sub = s.sub := rfl
@[simp] theorem State.storeCell_halfCarry (s : State) (x : Word) (v : Byte) : (s.storeCell x v).halfCarry = s.halfCarry := rfl
@[simp] theorem State.storeCell_carry (s : State) (x : Word) (v : Byte) : (s.storeCell x v).carry = s.carry := rfl
@[simp] theorem State.storeCell_ime (s : State) (x : Word) (v : Byte) : (s.storeCell x v).ime = s.ime := rfl
@[simp] theorem State.storeCell_pendingDisable (s : State) (x : Word) (v : Byte) : (s.storeCell x v).pendingDisable = s.pendingDisable := rfl
@[simp] theorem State.storeCell_pendingEnable (s : State) (x : Word) (v : Byte) : (s.storeCell x v).pendingEnable = s.pendingEnable := rfl
@[simp] theorem State.storeCell_halted (s : State) (x : Word) (v : Byte) : (s.storeCell x v).halted = s.halted := rfl
@[simp] theorem State.storeCell_cart (s : State) (x : Word) (v : Byte) : (s.storeCell x v).cart = s.cart := rfl
@[simp] theorem State.storeCell_timerNotices (s : State) (x : Word) (v : Byte) : (s.storeCell x v).timerNotices = s.timerNotices := rfl
@[simp] theorem State.storeCell_cycles (s : State) (x : Word) (v : Byte) : (s.storeCell x v).cycles = s.cycles := rfl
@[simp] theorem State.storeCell_host (s : State) (x : Word) (v : Byte) : (s.storeCell x v).host = s.host := rfl

@[simp] theorem State.bankWrite_a (s : State) (x : Word) (v : Byte) : (s.bankWrite x v).a = s.a := rfl
@[simp] theorem State.bankWrite_b (s : State) (x : Word) (v : Byte) : (s.bankWrite x v).b = s.b := rfl
@[simp] theorem State.bankWrite_c (s : State) (x : Word) (v : Byte) : (s.bankWrite x v).c = s.c := rfl
@[simp] theorem State.bankWrite_d (s : State) (x : Word) (v : Byte) : (s.bankWrite x v).d = s.d := rfl
@[simp] theorem State.bankWrite_e (s : State) (x : Word) (v : Byte) : (s.bankWrite x v).e = s.e := rfl
@[simp] theorem State.bankWrite_hl (s : State) (x : Word) (v : Byte) : (s.bankWrite x v).hl = s.hl := rfl
@[simp] theorem State.bankWrite_sp (s : State) (x : Word) (v : Byte) : (s.bankWrite x v).sp = s.sp := rfl
@[simp] theorem State.bankWrite_pc (s : State) (x : Word) (v : Byte) : (s.bankWrite x v).pc = s.pc := rfl
@[simp] theorem State.bankWrite_zero (s : State) (x : Word) (v : Byte) : (s.bankWrite x v).zero = s.zero := rfl
@[simp] theorem State.bankWrite_sub (s : State) (x : Word) (v : Byte) : (s.bankWrite x v).sub = s.sub := rfl
@[simp] theorem State.bankWrite_halfCarry (s : State) (x : Word) (v : Byte) : (s.bankWrite x v).halfCarry = s.halfCarry := rfl
@[simp] theorem State.bankWrite_carry (s : State) (x : Word) (v : Byte) : (s.bankWrite x v).carry = s.carry := rfl
@[simp] theorem State.bankWrite_ime (s : State) (x : Word) (v : Byte) : (s.bankWrite x v).ime = s.ime := rfl
@[simp] theorem State.bankWrite_pendingDisable (s : State) (x : Word) (v : Byte) : (s.bankWrite x v).pendingDisable = s.pendingDisable := rfl
@[simp] theorem State.bankWrite_pendingEnable (s : State) (x : Word) (v : Byte) : (s.bankWrite x v).pendingEnable = s.pendingEnable := rfl
@[simp] theorem State.bankWrite_halted (s : State) (x : Word) (v : Byte) : (s.bankWrite x v).halted = s.halted := rfl
@[simp] theorem State.bankWrite_mem (s : State) (x : Word) (v : Byte) : (s.bankWrite x v).mem = s.mem := rfl
@[simp] theorem State.bankWrite_timerNotices (s : State) (x : Word) (v : Byte) : (s.bankWrite x v).timerNotices = s.timerNotices := rfl
@[simp] theorem State.bankWrite_cycles (s : State) (x : Word) (v : Byte) : (s.bankWrite x v).cycles = s.cycles := rfl
@[simp] theorem State.bankWrite_host (s : State) (x : Word) (v : Byte) : (s.bankWrite x v).host = s.host := rfl

@[simp] theorem State.setFlags_a (s : State) (z n hc cy : Bool) : (s.setFlags z n hc cy).a = s.a := rfl
@[simp] theorem State.setFlags_b (s : State) (z n hc cy : Bool) : (s.setFlags z n hc cy).b = s.b := rfl
@[simp] theorem State.setFlags_c (s : State) (z n hc cy : Bool) : (s.setFlags z n hc cy).c = s.c := rfl
@[simp] theorem State.setFlags_d (s : State) (z n hc cy : Bool) : (s.setFlags z n hc cy).d = s.d := rfl
@[simp] theorem State.setFlags_e (s : State) (z n hc cy : Bool) : (s.setFlags z n hc cy).e = s.e := rfl
@[simp] theorem State.setFlags_hl (s : State) (z n hc cy : Bool) : (s.setFlags z n hc cy).hl = s.hl := rfl
@[simp] theorem State.setFlags_sp (s : State) (z n hc cy : Bool) : (s.setFlags z n hc cy).sp = s.sp := rfl
@[simp] theorem State.setFlags_pc (s : State) (z n hc cy : Bool) : (s.setFlags z n hc cy).pc = s.pc := rfl
@[simp] theorem State.setFlags_ime (s : State) (z n hc cy : Bool) : (s.setFlags z n hc cy).ime = s.ime := rfl
@[simp] theorem State.setFlags_pendingDisable (s : State) (z n hc cy : Bool) : (s.setFlags z n hc cy).pendingDisable = s.pendingDisable := rfl
@[simp] theorem State.setFlags_pendingEnable (s : State) (z n hc cy : Bool) : (s.setFlags z n hc cy).pendingEnable = s.pendingEnable := rfl
@[simp] theorem State.setFlags_halted (s : State) (z n hc cy : Bool) : (s.setFlags z n hc cy).halted = s.halted := rfl
@[simp] theorem State.setFlags_mem (s : State) (z n hc cy : Bool) : (s.setFlags z n hc cy).mem = s.mem := rfl
@[simp] theorem State.setFlags_cart (s : State) (z n hc cy : Bool) : (s.setFlags z n hc cy).cart = s.cart := rfl
@[simp] theorem State.setFlags_timerNotices (s : State) (z n hc cy : Bool) : (s.setFlags z n hc cy).timerNotices = s.timerNotices := rfl
@[simp] theorem State.setFlags_cycles (s : State) (z n hc cy : Bool) : (s.setFlags z n hc cy).cycles = s.cycles := rfl
@[simp] theorem State.setFlags_host (s : State) (z n hc cy : Bool) : (s.setFlags z n hc cy).host = s.host := rfl

@[simp] theorem State.setF_a (s : State) (v : Byte) : (s.setF v).a = s.a := rfl
@[simp] theorem State.setF_b (s : State) (v : Byte) : (s.setF v).b = s.b := rfl
@[simp] theorem State.setF_c (s : State) (v : Byte) : (s.setF v).c = s.c := rfl
@[simp] theorem State.setF_d (s : State) (v : Byte) : (s.setF v).d = s.d := rfl
@[simp] theorem State.setF_e (s : State) (v : Byte) : (s.setF v).e = s.e := rfl
@[simp] theorem State.setF_hl (s : State) (v : Byte) : (s.setF v).hl = s.hl := rfl
@[simp] theorem State.setF_sp (s : State) (v : Byte) : (s.setF v).sp = s.sp := rfl
@[simp] theorem State.setF_pc (s : State) (v : Byte) : (s.setF v).pc = s.pc := rfl
@[simp] theorem State.setF_ime (s : State) (v : Byte) : (s.setF v).ime = s.ime := rfl
@[simp] theorem State.setF_pendingDisable (s : State) (v : Byte) : (s.setF v).pendingDisable = s.pendingDisable := rfl
@[simp] theorem State.setF_pendingEnable (s : State) (v : Byte) : (s.setF v).pendingEnable = s.pendingEnable := rfl
@[simp] theorem State.setF_halted (s : State) (v : Byte) : (s.setF v).halted = s.halted := rfl
@[simp] theorem State.setF_mem (s : State) (v : Byte) : (s.setF v).mem = s.mem := rfl
@[simp] theorem State.setF_cart (s : State) (v : Byte) : (s.setF v).cart = s.cart := rfl
@[simp] theorem State.setF_timerNotices (s : State) (v : Byte) : (s.setF v).timerNotices = s.timerNotices := rfl
@[simp] theorem State.setF_cycles (s : State) (v : Byte) : (s.setF v).cycles = s.cycles := rfl
@[simp] theorem State.setF_host (s : State) (v : Byte) : (s.setF v).host = s.host := rfl

@[simp] theorem State.setReg_sp (s : State) (r : Reg8) (v : Byte) : (s.setReg r v).sp = s.sp := by cases r <;> rfl
@[simp] theorem State.setReg_pc (s : State) (r : Reg8) (v : Byte) : (s.setReg r v).pc = s.pc := by cases r <;> rfl
@[simp] theorem State.setReg_zero (s : State) (r : Reg8) (v : Byte) : (s.setReg r v).zero = s.zero := by cases r <;> rfl
@[simp] theorem State.setReg_sub (s : State) (r : Reg8) (v : Byte) : (s.setReg r v).sub = s.sub := by cases r <;> rfl
@[simp] theorem State.setReg_halfCarry (s : State) (r : Reg8) (v : Byte) : (s.setReg r v).halfCarry = s.halfCarry := by cases r <;> rfl
@[simp] theorem State.setReg_carry (s : State) (r : Reg8) (v : Byte) : (s.setReg r v).carry = s.carry := by cases r <;> rfl
@[simp] theorem State.setReg_ime (s : State) (r : Reg8) (v : Byte) : (s.setReg r v).ime = s.ime := by cases r <;> rfl
@[simp] theorem State.setReg_pendingDisable (s : State) (r : Reg8) (v : Byte) : (s.setReg r v).pendingDisable = s.pendingDisable := by cases r <;> rfl
@[simp] theorem State.setReg_pendingEnable (s : State) (r : Reg8) (v : Byte) : (s.setReg r v).pendingEnable = s.pendingEnable := by cases r <;> rfl
@[simp] theorem State.setReg_halted (s : State) (r : Reg8) (v : Byte) : (s.setReg r v).halted = s.halted := by cases r <;> rfl
@[simp] theorem State.setReg_mem (s : State) (r : Reg8) (v : Byte) : (s.setReg r v).mem = s.mem := by cases r <;> rfl
@[simp] theorem State.setReg_cart (s : State) (r : Reg8) (v : Byte) : (s.setReg r v).cart = s.cart := by cases r <;> rfl
@[simp] theorem State.setReg_timerNotices (s : State) (r : Reg8) (v : Byte) : (s.setReg r v).timerNotices = s.timerNotices := by cases r <;> rfl
@[simp] theorem State.setReg_cycles (s : State) (r : Reg8) (v : Byte) : (s.setReg r v).cycles = s.cycles := by cases r <;> rfl
@[simp] theorem State.setReg_host (s : State) (r : Reg8) (v : Byte) : (s.setReg r v).host = s.host := by cases r <;> rfl

@[simp] theorem State.setReg16_a (s : State) (p : Reg16) (w : Word) : (s.setReg16 p w).a = s.a := by cases p <;> rfl
@[simp] theorem State.setReg16_pc (s : State) (p : Reg16) (w : Word) : (s.setReg16 p w).pc = s.pc := by cases p <;> rfl
@[simp] theorem State.setReg16_zero (s : State) (p : Reg16) (w : Word) : (s.setReg16 p w).zero = s.zero := by cases p <;> rfl
@[simp] theorem State.setReg16_sub (s : State) (p : Reg16) (w : Word) : (s.setReg16 p w).sub = s.sub := by cases p <;> rfl
@[simp] theorem State.setReg16_halfCarry (s : State) (p : Reg16) (w : Word) : (s.setReg16 p w).halfCarry = s.halfCarry := by cases p <;> rfl
@[simp] theorem State.setReg16_carry (s : State) (p : Reg16) (w : Word) : (s.setReg16 p w).carry = s.carry := by cases p <;> rfl
@[simp] theorem State.setReg16_ime (s : State) (p : Reg16) (w : Word) : (s.setReg16 p w).ime = s.ime := by cases p <;> rfl
@[simp] theorem State.setReg16_pendingDisable (s : State) (p : Reg16) (w : Word) : (s.setReg16 p w).pendingDisable = s.pendingDisable := by cases p <;> rfl
@[simp] theorem State.setReg16_pendingEnable (s : State) (p : Reg16) (w : Word) : (s.setReg16 p w).pendingEnable = s.pendingEnable := by cases p <;> rfl
@[simp] theorem State.setReg16_halted (s : State) (p : Reg16) (w : Word) : (s.setReg16 p w).halted = s.halted := by cases p <;> rfl
@[simp] theorem State.setReg16_mem (s : State) (p : Reg16) (w : Word) : (s.setReg16 p w).mem = s.mem := by cases p <;> rfl
@[simp] theorem State.setReg16_cart (s : State) (p : Reg16) (w : Word) : (s.setReg16 p w).cart = s.cart := by cases p <;> rfl
@[simp] theorem State.setReg16_timerNotices (s : State) (p : Reg16) (w : Word) : (s.setReg16 p w).timerNotices = s.timerNotices := by cases p <;> rfl
@[simp] theorem State.setReg16_cycles (s : State) (p : Reg16) (w : Word) : (s.setReg16 p w).cycles = s.cycles := by cases p <;> rfl
@[simp] theorem State.setReg16_host (s : State) (p : Reg16) (w : Word) : (s.setReg16 p w).host = s.host := by cases p <;> rfl

@[simp] theorem State.setStackReg_sp (s : State) (p : StackReg) (w : Word) : (s.setStackReg p w).sp = s.sp := by cases p <;> rfl
@[simp] theorem State.setStackReg_pc (s : State) (p : StackReg) (w : Word) : (s.setStackReg p w).pc = s.pc := by cases p <;> rfl
@[simp] theorem State.setStackReg_ime (s : State) (p : StackReg) (w : Word) : (s.setStackReg p w).ime = s.ime := by cases p <;> rfl
@[simp] theorem State.setStackReg_pendingDisable (s : State) (p : StackReg) (w : Word) : (s.setStackReg p w).pendingDisable = s.pendingDisable := by cases p <;> rfl
@[simp] theorem State.setStackReg_pendingEnable (s : State) (p : StackReg) (w : Word) : (s.setStackReg p w).pendingEnable = s.pendingEnable := by cases p <;> rfl
@[simp] theorem State.setStackReg_halted (s : State) (p : StackReg) (w : Word) : (s.setStackReg p w).halted = s.halted := by cases p <;> rfl
@[simp] theorem State.setStackReg_mem (s : State) (p : StackReg) (w : Word) : (s.setStackReg p w).mem = s.mem := by cases p <;> rfl
@[simp] theorem State.setStackReg_cart (s : State) (p : StackReg) (w : Word) : (s.setStackReg p w).cart = s.cart := by cases p <;> rfl
@[simp] theorem State.setStackReg_timerNotices (s : State) (p : StackReg) (w : Word) : (s.setStackReg p w).timerNotices = s.timerNotices := by cases p <;> rfl
@[simp] theorem State.setStackReg_cycles (s : State) (p : StackReg) (w : Word) : (s.setStackReg p w).cycles = s.cycles := by cases p <;> rfl
@[simp] theorem State.setStackReg_host (s : State) (p : StackReg) (w : Word) : (s.setStackReg p w).host = s.host := by cases p <;> rfl

@[simp] theorem State.compare_a (s : State) (x y : Byte) : (s.compare x y).a = s.a := rfl
@[simp] theorem State.compare_b (s : State) (x y : Byte) : (s.compare x y).b = s.b := rfl
@[simp] theorem State.compare_c (s : State) (x y : Byte) : (s.compare x y).c = s.c := rfl
@[simp] theorem State.compare_d (s : State) (x y : Byte) : (s.compare x y).d = s.d := rfl
@[simp] theorem State.compare_e (s : State) (x y : Byte) : (s.compare x y).e = s.e := rfl
@[simp] theorem State.compare_hl (s : State) (x y : Byte) : (s.compare x y).hl = s.hl := rfl
@[simp] theorem State.compare_sp (s : State) (x y : Byte) : (s.compare x y).sp = s.sp := rfl
@[simp] theorem State.compare_pc (s : State) (x y : Byte) : (s.compare x y).pc = s.pc := rfl
@[simp] theorem State.compare_ime (s : State) (x y : Byte) : (s.compare x y).ime = s.ime := rfl
@[simp] theorem State.compare_pendingDisable (s : State) (x y : Byte) : (s.compare x y).pendingDisable = s.pendingDisable := rfl
@[simp] theorem State.compare_pendingEnable (s : State) (x y : Byte) : (s.compare x y).pendingEnable = s.pendingEnable := rfl
@[simp] theorem State.compare_halted (s : State) (x y : Byte) : (s.compare x y).halted = s.halted := rfl
@[simp] theorem State.compare_mem (s : State) (x y : Byte) : (s.compare x y).mem = s.mem := rfl
@[simp] theorem State.compare_cart (s : State) (x y : Byte) : (s.compare x y).cart = s.cart := rfl
@[simp] theorem State.compare_timerNotices (s : State) (x y : Byte) : (s.compare x y).timerNotices = s.timerNotices := rfl
@[simp] theorem State.compare_cycles (s : State) (x y : Byte) : (s.compare x y).cycles = s.cycles := rfl
@[simp] theorem State.compare_host (s : State) (x y : Byte) : (s.compare x y).host = s.host := rfl

@[simp] theorem State.incFlags_a (s : State) (v : Byte) : (s.incFlags v).a = s.a := rfl
@[simp] theorem State.incFlags_b (s : State) (v : Byte) : (s.incFlags v).b = s.b := rfl
@[simp] theorem State.incFlags_c (s : State) (v : Byte) : (s.incFlags v).c = s.c := rfl
@[simp] theorem State.incFlags_d (s : State) (v : Byte) : (s.incFlags v).d = s.d := rfl
@[simp] theorem State.incFlags_e (s : State) (v : Byte) : (s.incFlags v).e = s.e := rfl
@[simp] theorem State.incFlags_hl (s : State) (v : Byte) : (s.incFlags v).hl = s.hl := rfl
@[simp] theorem State.incFlags_sp (s : State) (v : Byte) : (s.incFlags v).sp = s.sp := rfl
@[simp] theorem State.incFlags_pc (s : State) (v : Byte) : (s.incFlags v).pc = s.pc := rfl
@[simp] theorem State.incFlags_ime (s : State) (v : Byte) : (s.incFlags v).ime = s.ime := rfl
@[simp] theorem State.incFlags_pendingDisable (s : State) (v : Byte) : (s.incFlags v).pendingDisable = s.pendingDisable := rfl
@[simp] theorem State.incFlags_pendingEnable (s : State) (v : Byte) : (s.incFlags v).pendingEnable = s.pendingEnable := rfl
@[simp] theorem State.incFlags_halted (s : State) (v : Byte) : (s.incFlags v).halted = s.halted := rfl
@[simp] theorem State.incFlags_mem (s : State) (v : Byte) : (s.incFlags v).mem = s.mem := rfl
@[simp] theorem State.incFlags_cart (s : State) (v : Byte) : (s.incFlags v).cart = s.cart := rfl
@[simp] theorem State.incFlags_timerNotices (s : State) (v : Byte) : (s.incFlags v).timerNotices = s.timerNotices := rfl
@[simp] theorem State.incFlags_cycles (s : State) (v : Byte) : (s.incFlags v).cycles = s.cycles := rfl
@[simp] theorem State.incFlags_host (s : State) (v : Byte) : (s.incFlags v).host = s.host := rfl

@[simp] theorem State.decFlags_a (s : State) (v : Byte) : (s.decFlags v).a = s.a := rfl
@[simp] theorem State.decFlags_b (s : State) (v : Byte) : (s.decFlags v).b = s.b := rfl
@[simp] theorem State.decFlags_c (s : State) (v : Byte) : (s.decFlags v).c = s.c := rfl
@[simp] theorem State.decFlags_d (s : State) (v : Byte) : (s.decFlags v).d = s.d := rfl
@[simp] theorem State.decFlags_e (s : State) (v : Byte) : (s.decFlags v).e = s.e := rfl
@[simp] theorem State.decFlags_hl (s : State) (v : Byte) : (s.decFlags v).hl = s.hl := rfl
@[simp] theorem State.decFlags_sp (s : State) (v : Byte) : (s.decFlags v).sp = s.sp := rfl
@[simp] theorem State.decFlags_pc (s : State) (v : Byte) : (s.decFlags v).pc = s.pc := rfl
@[simp] theorem State.decFlags_ime (s : State) (v : Byte) : (s.decFlags v).ime = s.ime := rfl
@[simp] theorem State.decFlags_pendingDisable (s : State) (v : Byte) : (s.decFlags v).pendingDisable = s.pendingDisable := rfl
@[simp] theorem State.decFlags_pendingEnable (s : State) (v : Byte) : (s.decFlags v).pendingEnable = s.pendingEnable := rfl
@[simp] theorem State.decFlags_halted (s : State) (v : Byte) : (s.decFlags v).halted = s.halted := rfl
@[simp] theorem State.decFlags_mem (s : State) (v : Byte) : (s.decFlags v).mem = s.mem := rfl
@[simp] theorem State.decFlags_cart (s : State) (v : Byte) : (s.decFlags v).cart = s.cart := rfl
@[simp] theorem State.decFlags_timerNotices (s : State) (v : Byte) : (s.decFlags v).timerNotices = s.timerNotices := rfl
@[simp] theorem State.decFlags_cycles (s : State) (v : Byte) : (s.decFlags v).cycles = s.cycles := rfl
@[simp] theorem State.decFlags_host (s : State) (v : Byte) : (s.decFlags v).host = s.host := rfl

@[simp] theorem State.spFlags_a (s : State) (v : Byte) : (s.spFlags v).a = s.a := rfl
@[simp] theorem State.spFlags_b (s : State) (v : Byte) : (s.spFlags v).b = s.b := rfl
@[simp] theorem State.spFlags_c (s : State) (v : Byte) : (s.spFlags v).c = s.c := rfl
@[simp] theorem State.spFlags_d (s : State) (v : Byte) : (s.spFlags v).d = s.d := rfl
@[simp] theorem State.spFlags_e (s : State) (v : Byte) : (s.spFlags v).e = s.e := rfl
@[simp] theorem State.spFlags_hl (s : State) (v : Byte) : (s.spFlags v).hl = s.hl := rfl
@[simp] theorem State.spFlags_sp (s : State) (v : Byte) : (s.spFlags v).sp = s.sp := rfl
@[simp] theorem State.spFlags_pc (s : State) (v : Byte) : (s.spFlags v).pc = s.pc := rfl
@[simp] theorem State.spFlags_ime (s : State) (v : Byte) : (s.spFlags v).ime = s.ime := rfl
@[simp] theorem State.spFlags_pendingDisable (s : State) (v : Byte) : (s.spFlags v).pendingDisable = s.pendingDisable := rfl
@[simp] theorem State.spFlags_pendingEnable (s : State) (v : Byte) : (s.spFlags v).pendingEnable = s.pendingEnable := rfl
@[simp] theorem State.spFlags_halted (s : State) (v : Byte) : (s.spFlags v).halted = s.halted := rfl
@[simp] theorem State.spFlags_mem (s : State) (v : Byte) : (s.spFlags v).mem = s.mem := rfl
@[simp] theorem State.spFlags_cart (s : State) (v : Byte) : (s.spFlags v).cart = s.cart := rfl
@[simp] theorem State.spFlags_timerNotices (s : State) (v : Byte) : (s.spFlags v).timerNotices = s.timerNotices := rfl
@[simp] theorem State.spFlags_cycles (s : State) (v : Byte) : (s.spFlags v).cycles = s.cycles := rfl
@[simp] theorem State.spFlags_host (s : State) (v : Byte) : (s.spFlags v).host = s.host := rfl

@[simp] theorem State.addToA_b (s : State) (v : Byte) (k : Nat) : (s.addToA v k).b = s.b := rfl
@[simp] theorem State.addToA_c (s : State) (v : Byte) (k : Nat) : (s.addToA v k).c = s.c := rfl
@[simp] theorem State.addToA_d (s : State) (v : Byte) (k : Nat) : (s.addToA v k).d = s.d := rfl
@[simp] theorem State.addToA_e (s : State) (v : Byte) (k : Nat) : (s.addToA v k).e = s.e := rfl
@[simp] theorem State.addToA_hl (s : State) (v : Byte) (k : Nat) : (s.addToA v k).hl = s.hl := rfl
@[simp] theorem State.addToA_sp (s : State) (v : Byte) (k : Nat) : (s.addToA v k).sp = s.sp := rfl
@[simp] theorem State.addToA_pc (s : State) (v : Byte) (k : Nat) : (s.addToA v k).pc = s.pc := rfl
@[simp] theorem State.addToA_ime (s : State) (v : Byte) (k : Nat) : (s.addToA v k).ime = s.ime := rfl
@[simp] theorem State.addToA_pendingDisable (s : State) (v : Byte) (k : Nat) : (s.addToA v k).pendingDisable = s.pendingDisable := rfl
@[simp] theorem State.addToA_pendingEnable (s : State) (v : Byte) (k : Nat) : (s.addToA v k).pendingEnable = s.pendingEnable := rfl
@[simp] theorem State.addToA_halted (s : State) (v : Byte) (k : Nat) : (s.addToA v k).halted = s.halted := rfl
@[simp] theorem State.addToA_mem (s : State) (v : Byte) (k : Nat) : (s.addToA v k).mem = s.mem := rfl
@[simp] theorem State.addToA_cart (s : State) (v : Byte) (k : Nat) : (s.addToA v k).cart = s.cart := rfl
@[simp] theorem State.addToA_timerNotices (s : State) (v : Byte) (k : Nat) : (s.addToA v k).timerNotices = s.timerNotices := rfl
@[simp] theorem State.addToA_cycles (s : State) (v : Byte) (k : Nat) : (s.addToA v k).cycles = s.cycles := rfl
@[simp] theorem State.addToA_host (s : State) (v : Byte) (k : Nat) : (s.addToA v k).host = s.host := rfl

@[simp] theorem State.subFromA_b (s : State) (v : Byte) (k : Nat) : (s.subFromA v k).b = s.b := rfl
@[simp] theorem State.subFromA_c (s : State) (v : Byte) (k : Nat) : (s.subFromA v k).c = s.c := rfl
@[simp] theorem State.subFromA_d (s : State) (v : Byte) (k : Nat) : (s.subFromA v k).d = s.d := rfl
@[simp] theorem State.subFromA_e (s : State) (v : Byte) (k : Nat) : (s.subFromA v k).e = s.e := rfl
@[simp] theorem State.subFromA_hl (s : State) (v : Byte) (k : Nat) : (s.subFromA v k).hl = s.hl := rfl
@[simp] theorem State.subFromA_sp (s : State) (v : Byte) (k : Nat) : (s.subFromA v k).sp = s.sp := rfl
@[simp] theorem State.subFromA_pc (s : State) (v : Byte) (k : Nat) : (s.subFromA v k).pc = s.pc := rfl
@[simp] theorem State.subFromA_ime (s : State) (v : Byte) (k : Nat) : (s.subFromA v k).ime = s.ime := rfl
@[simp] theorem State.subFromA_pendingDisable (s : State) (v : Byte) (k : Nat) : (s.subFromA v k).pendingDisable = s.pendingDisable := rfl
@[simp] theorem State.subFromA_pendingEnable (s : State) (v : Byte) (k : Nat) : (s.subFromA v k).pendingEnable = s.pendingEnable := rfl
@[simp] theorem State.subFromA_halted (s : State) (v : Byte) (k : Nat) : (s.subFromA v k).halted = s.halted := rfl
@[simp] theorem State.subFromA_mem (s : State) (v : Byte) (k : Nat) : (s.subFromA v k).mem = s.mem := rfl
@[simp] theorem State.subFromA_cart (s : State) (v : Byte) (k : Nat) : (s.subFromA v k).cart = s.cart := rfl
@[simp] theorem State.subFromA_timerNotices (s : State) (v : Byte) (k : Nat) : (s.subFromA v k).timerNotices = s.timerNotices := rfl
@[simp] theorem State.subFromA_cycles (s : State) (v : Byte) (k : Nat) : (s.subFromA v k).cycles = s.cycles := rfl
@[simp] theorem State.subFromA_host (s : State) (v : Byte) (k : Nat) : (s.subFromA v k).host = s.host := rfl

@[simp] theorem State.logicToA_b (s : State) (v : Byte) (hc : Bool) : (s.logicToA v hc).b = s.b := rfl
@[simp] theorem State.logicToA_c (s : State) (v : Byte) (hc : Bool) : (s.logicToA v hc).c = s.c := rfl
@[simp] theorem State.logicToA_d (s : State) (v : Byte) (hc : Bool) : (s.logicToA v hc).d = s.d := rfl
@[simp] theorem State.logicToA_e (s : State) (v : Byte) (hc : Bool) : (s.logicToA v hc).e = s.e := rfl
@[simp] theorem State.logicToA_hl (s : State) (v : Byte) (hc : Bool) : (s.logicToA v hc).hl = s.hl := rfl
@[simp] theorem State.logicToA_sp (s : State) (v : Byte) (hc : Bool) : (s.logicToA v hc).sp = s.sp := rfl
@[simp] theorem State.logicToA_pc (s : State) (v : Byte) (hc : Bool) : (s.logicToA v hc).pc = s.pc := rfl
@[simp] theorem State.logicToA_ime (s : State) (v : Byte) (hc : Bool) : (s.logicToA v hc).ime = s.ime := rfl
@[simp] theorem State.logicToA_pendingDisable (s : State) (v : Byte) (hc : Bool) : (s.logicToA v hc).pendingDisable = s.pendingDisable := rfl
@[simp] theorem State.logicToA_pendingEnable (s : State) (v : Byte) (hc : Bool) : (s.logicToA v hc).pendingEnable = s.pendingEnable := rfl
@[simp] theorem State.logicToA_halted (s : State) (v : Byte) (hc : Bool) : (s.logicToA v hc).halted = s.halted := rfl
@[simp] theorem State.logicToA_mem (s : State) (v : Byte) (hc : Bool) : (s.logicToA v hc).mem = s.mem := rfl
@[simp] theorem State.logicToA_cart (s : State) (v : Byte) (hc : Bool) : (s.logicToA v hc).cart = s.cart := rfl
@[simp] theorem State.logicToA_timerNotices (s : State) (v : Byte) (hc : Bool) : (s.logicToA v hc).timerNotices = s.timerNotices := rfl
@[simp] theorem State.logicToA_cycles (s : State) (v : Byte) (hc : Bool) : (s.logicToA v hc).cycles = s.cycles := rfl
@[simp] theorem State.logicToA_host (s : State) (v : Byte) (hc : Bool) : (s.logicToA v hc).host = s.host := rfl

@[simp] theorem State.decimalAdjust_b (s : State) : s.decimalAdjust.b = s.b := rfl
@[simp] theorem State.decimalAdjust_c (s : State) : s.decimalAdjust.c = s.c := rfl
@[simp] theorem State.decimalAdjust_d (s : State) : s.decimalAdjust.d = s.d := rfl
@[simp] theorem State.decimalAdjust_e (s : State) : s.decimalAdjust.e = s.e := rfl
@[simp] theorem State.decimalAdjust_hl (s : State) : s.decimalAdjust.hl = s.hl := rfl
@[simp] theorem State.decimalAdjust_sp (s : State) : s.decimalAdjust.sp = s.sp := rfl
@[simp] theorem State.decimalAdjust_pc (s : State) : s.decimalAdjust.pc = s.pc := rfl
@[simp] theorem State.decimalAdjust_ime (s : State) : s.decimalAdjust.ime = s.ime := rfl
@[simp] theorem State.decimalAdjust_pendingDisable (s : State) : s.decimalAdjust.pendingDisable = s.pendingDisable := rfl
@[simp] theorem State.decimalAdjust_pendingEnable (s : State) : s.decimalAdjust.pendingEnable = s.pendingEnable := rfl
@[simp] theorem State.decimalAdjust_halted (s : State) : s.decimalAdjust.halted = s.halted := rfl
@[simp] theorem State.decimalAdjust_mem (s : State) : s.decimalAdjust.mem = s.mem := rfl
@[simp] theorem State.decimalAdjust_cart (s : State) : s.decimalAdjust.cart = s.cart := rfl
@[simp] theorem State.decimalAdjust_timerNotices (s : State) : s.decimalAdjust.timerNotices = s.timerNotices := rfl
@[simp] theorem State.decimalAdjust_cycles (s : State) : s.decimalAdjust.cycles = s.cycles := rfl
@[simp] theorem State.decimalAdjust_host (s : State) : s.decimalAdjust.host = s.host := rfl

@[simp] theorem State.addToHl_a (s : State) (v : Word) : (s.addToHl v).a = s.a := rfl
@[simp] theorem State.addToHl_b (s : State) (v : Word) : (s.addToHl v).b = s.b := rfl
@[simp] theorem State.addToHl_c (s : State) (v : Word) : (s.addToHl v).c = s.c := rfl
@[simp] theorem State.addToHl_d (s : State) (v : Word) : (s.addToHl v).d = s.d := rfl
@[simp] theorem State.addToHl_e (s : State) (v : Word) : (s.addToHl v).e = s.e := rfl
@[simp] theorem State.addToHl_sp (s : State) (v : Word) : (s.addToHl v).sp = s.sp := rfl
@[simp] theorem State.addToHl_pc (s : State) (v : Word) : (s.addToHl v).pc = s.pc := rfl
@[simp] theorem State.addToHl_ime (s : State) (v : Word) : (s.addToHl v).ime = s.ime := rfl
@[simp] theorem State.addToHl_pendingDisable (s : State) (v : Word) : (s.addToHl v).pendingDisable = s.pendingDisable := rfl
@[simp] theorem State.addToHl_pendingEnable (s : State) (v : Word) : (s.addToHl v).pendingEnable = s.pendingEnable := rfl
@[simp] theorem State.addToHl_halted (s : State) (v : Word) : (s.addToHl v).halted = s.halted := rfl
@[simp] theorem State.addToHl_mem (s : State) (v : Word) : (s.addToHl v).mem = s.mem := rfl
@[simp] theorem State.addToHl_cart (s : State) (v : Word) : (s.addToHl v).cart = s.cart := rfl
@[simp] theorem State.addToHl_timerNotices (s : State) (v : Word) : (s.addToHl v).timerNotices = s.timerNotices := rfl
@[simp] theorem State.addToHl_cycles (s : State) (v : Word) : (s.addToHl v).cycles = s.cycles := rfl
@[simp] theorem State.addToHl_host (s : State) (v : Word) : (s.addToHl v).host = s.host := rfl

@[simp] theorem State.stackDrop_a (s : State) : s.stackDrop.a = s.a := rfl
@[simp] theorem State.stackDrop_b (s : State) : s.stackDrop.b = s.b := rfl
@[simp] theorem State.stackDrop_c (s : State) : s.stackDrop.c = s.c := rfl
@[simp] theorem State.stackDrop_d (s : State) : s.stackDrop.d = s.d := rfl
@[simp] theorem State.stackDrop_e (s : State) : s.stackDrop.e = s.e := rfl
@[simp] theorem State.stackDrop_hl (s : State) : s.stackDrop.hl = s.hl := rfl
@[simp] theorem State.stackDrop_pc (s : State) : s.stackDrop.pc = s.pc := rfl
@[simp] theorem State.stackDrop_zero (s : State) : s.stackDrop.zero = s.zero := rfl
@[simp] theorem State.stackDrop_sub (s : State) : s.stackDrop.sub = s.sub := rfl
@[simp] theorem State.stackDrop_halfCarry (s : State) : s.stackDrop.halfCarry = s.halfCarry := rfl
@[simp] theorem State.stackDrop_carry (s : State) : s.stackDrop.carry = s.carry := rfl
@[simp] theorem State.stackDrop_ime (s : State) : s.stackDrop.ime = s.ime := rfl
@[simp] theorem State.stackDrop_pendingDisable (s : State) : s.stackDrop.pendingDisable = s.pendingDisable := rfl
@[simp] theorem State.stackDrop_pendingEnable (s : State) : s.stackDrop.pendingEnable = s.pendingEnable := rfl
@[simp] theorem State.stackDrop_halted (s : State) : s.stackDrop.halted = s.halted := rfl
@[simp] theorem State.stackDrop_mem (s : State) : s.stackDrop.mem = s.mem := rfl
@[simp] theorem State.stackDrop_cart (s : State) : s.stackDrop.cart = s.cart := rfl
@[simp] theorem State.stackDrop_timerNotices (s : State) : s.stackDrop.timerNotices = s.timerNotices := rfl
@[simp] theorem State.stackDrop_cycles (s : State) : s.stackDrop.cycles = s.cycles := rfl
@[simp] theorem State.stackDrop_host (s : State) : s.stackDrop.host = s.host := rfl

@[simp] theorem State.pastInstr_a (s : State) (i : Instr) : (s.pastInstr i).a = s.a := rfl
@[simp] theorem State.pastInstr_b (s : State) (i : Instr) : (s.pastInstr i).b = s.b := rfl
@[simp] theorem State.pastInstr_c (s : State) (i : Instr) : (s.pastInstr i).c = s.c := rfl
@[simp] theorem State.pastInstr_d (s : State) (i : Instr) : (s.pastInstr i).d = s.d := rfl
@[simp] theorem State.pastInstr_e (s : State) (i : Instr) : (s.pastInstr i).e = s.e := rfl
@[simp] theorem State.pastInstr_hl (s : State) (i : Instr) : (s.pastInstr i).hl = s.hl := rfl
@[simp] theorem State.pastInstr_sp (s : State) (i : Instr) : (s.pastInstr i).sp = s.sp := rfl
@[simp] theorem State.pastInstr_zero (s : State) (i : Instr) : (s.pastInstr i).zero = s.zero := rfl
@[simp] theorem State.pastInstr_sub (s : State) (i : Instr) : (s.pastInstr i).sub = s.sub := rfl
@[simp] theorem State.pastInstr_halfCarry (s : State) (i : Instr) : (s.pastInstr i).halfCarry = s.halfCarry := rfl
@[simp] theorem State.pastInstr_carry (s : State) (i : Instr) : (s.pastInstr i).carry = s.carry := rfl
@[simp] theorem State.pastInstr_ime (s : State) (i : Instr) : (s.pastInstr i).ime = s.ime := rfl
@[simp] theorem State.pastInstr_pendingDisable (s : State) (i : Instr) : (s.pastInstr i).pendingDisable = s.pendingDisable := rfl
@[simp] theorem State.pastInstr_pendingEnable (s : State) (i : Instr) : (s.pastInstr i).pendingEnable = s.pendingEnable := rfl
@[simp] theorem State.pastInstr_halted (s : State) (i : Instr) : (s.pastInstr i).halted = s.halted := rfl
@[simp] theorem State.pastInstr_mem (s : State) (i : Instr) : (s.pastInstr i).mem = s.mem := rfl
@[simp] theorem State.pastInstr_cart (s : State) (i : Instr) : (s.pastInstr i).cart = s.cart := rfl
@[simp] theorem State.pastInstr_timerNotices (s : State) (i : Instr) : (s.pastInstr i).timerNotices = s.timerNotices := rfl
@[simp] theorem State.pastInstr_cycles (s : State) (i : Instr) : (s.pastInstr i).cycles = s.cycles := rfl
@[simp] theorem State.pastInstr_host (s : State) (i : Instr) : (s.pastInstr i).host = s.host := rfl

@[simp] theorem State.hostWrite_a (s : State) (p : Word × Byte) : (s.hostWrite p).a = s.a := by unfold State.hostWrite; split <;> rfl
@[simp] theorem State.hostWrite_b (s : State) (p : Word × Byte) : (s.hostWrite p).b = s.b := by unfold State.hostWrite; split <;> rfl
@[simp] theorem State.hostWrite_c (s : State) (p : Word × Byte) : (s.hostWrite p).c = s.c := by unfold State.hostWrite; split <;> rfl
@[simp] theorem State.hostWrite_d (s : State) (p : Word × Byte) : (s.hostWrite p).d = s.d := by unfold State.hostWrite; split <;> rfl
@[simp] theorem State.hostWrite_e (s : State) (p : Word × Byte) : (s.hostWrite p).e = s.e := by unfold State.hostWrite; split <;> rfl
@[simp] theorem State.hostWrite_hl (s : State) (p : Word × Byte) : (s.hostWrite p).hl = s.hl := by unfold State.hostWrite; split <;> rfl
@[simp] theorem State.hostWrite_sp (s : State) (p : Word × Byte) : (s.hostWrite p).sp = s.sp := by unfold State.hostWrite; split <;> rfl
@[simp] theorem State.hostWrite_pc (s : State) (p : Word × Byte) : (s.hostWrite p).pc = s.pc := by unfold State.hostWrite; split <;> rfl
@[simp] theorem State.hostWrite_zero (s : State) (p : Word × Byte) : (s.hostWrite p).zero = s.zero := by unfold State.hostWrite; split <;> rfl
@[simp] theorem State.hostWrite_sub (s : State) (p : Word × Byte) : (s.hostWrite p).sub = s.sub := by unfold State.hostWrite; split <;> rfl
@[simp] theorem State.hostWrite_halfCarry (s : State) (p : Word × Byte) : (s.hostWrite p).halfCarry = s.halfCarry := by unfold State.hostWrite; split <;> rfl
@[simp] theorem State.hostWrite_carry (s : State) (p : Word × Byte) : (s.hostWrite p).carry = s.carry := by unfold State.hostWrite; split <;> rfl
@[simp] theorem State.hostWrite_ime (s : State) (p : Word × Byte) : (s.hostWrite p).ime = s.ime := by unfold State.hostWrite; split <;> rfl
@[simp] theorem State.hostWrite_pendingDisable (s : State) (p : Word × Byte) : (s.hostWrite p).pendingDisable = s.pendingDisable := by unfold State.hostWrite; split <;> rfl
@[simp] theorem State.hostWrite_pendingEnable (s : State) (p : Word × Byte) : (s.hostWrite p).pendingEnable = s.pendingEnable := by unfold State.hostWrite; split <;> rfl
@[simp] theorem State.hostWrite_halted (s : State) (p : Word × Byte) : (s.hostWrite p).halted = s.halted := by unfold State.hostWrite; split <;> rfl
@[simp] theorem State.hostWrite_cart (s : State) (p : Word × Byte) : (s.hostWrite p).cart = s.cart := by unfold State.hostWrite; split <;> rfl
@[simp] theorem State.hostWrite_timerNotices (s : State) (p : Word × Byte) : (s.hostWrite p).timerNotices = s.timerNotices := by unfold State.hostWrite; split <;> rfl
@[simp] theorem State.hostWrite_cycles (s : State) (p : Word × Byte) : (s.hostWrite p).cycles = s.cycles := by unfold State.hostWrite; split <;> rfl
@[simp] theorem State.hostWrite_host (s : State) (p : Word × Byte) : (s.hostWrite p).host = s.host := by unfold State.hostWrite; split <;> rfl

@[simp] theorem State.wakeFromHalt_a (s : State) : s.wakeFromHalt.a = s.a := by unfold State.wakeFromHalt; split <;> rfl
@[simp] theorem State.wakeFromHalt_b (s : State) : s.wakeFromHalt.b = s.b := by unfold State.wakeFromHalt; split <;> rfl
@[simp] theorem State.wakeFromHalt_c (s : State) : s.wakeFromHalt.c = s.c := by unfold State.wakeFromHalt; split <;> rfl
@[simp] theorem State.wakeFromHalt_d (s : State) : s.wakeFromHalt.d = s.d := by unfold State.wakeFromHalt; split <;> rfl
@[simp] theorem State.wakeFromHalt_e (s : State) : s.wakeFromHalt.e = s.e := by unfold State.wakeFromHalt; split <;> rfl
@[simp] theorem State.wakeFromHalt_hl (s : State) : s.wakeFromHalt.hl = s.hl := by unfold State.wakeFromHalt; split <;> rfl
@[simp] theorem State.wakeFromHalt_sp (s : State) : s.wakeFromHalt.sp = s.sp := by unfold State.wakeFromHalt; split <;> rfl
@[simp] theorem State.wakeFromHalt_pc (s : State) : s.wakeFromHalt.pc = s.pc := by unfold State.wakeFromHalt; split <;> rfl
@[simp] theorem State.wakeFromHalt_zero (s : State) : s.wakeFromHalt.zero = s.zero := by unfold State.wakeFromHalt; split <;> rfl
@[simp] theorem State.wakeFromHalt_sub (s : State) : s.wakeFromHalt.sub = s.sub := by unfold State.wakeFromHalt; split <;> rfl
@[simp] theorem State.wakeFromHalt_halfCarry (s : State) : s.wakeFromHalt.halfCarry = s.halfCarry := by unfold State.wakeFromHalt; split <;> rfl
@[simp] theorem State.wakeFromHalt_carry (s : State) : s.wakeFromHalt.carry = s.carry := by unfold State.wakeFromHalt; split <;> rfl
@[simp] theorem State.wakeFromHalt_ime (s : State) : s.wakeFromHalt.ime = s.ime := by unfold State.wakeFromHalt; split <;> rfl
@[simp] theorem State.wakeFromHalt_pendingDisable (s : State) : s.wakeFromHalt.pendingDisable = s.pendingDisable := by unfold State.wakeFromHalt; split <;> rfl
@[simp] theorem State.wakeFromHalt_pendingEnable (s : State) : s.wakeFromHalt.pendingEnable = s.pendingEnable := by unfold State.wakeFromHalt; split <;> rfl
@[simp] theorem State.wakeFromHalt_mem (s : State) : s.wakeFromHalt.mem = s.mem := by unfold State.wakeFromHalt; split <;> rfl
@[simp] theorem State.wakeFromHalt_cart (s : State) : s.wakeFromHalt.cart = s.cart := by unfold State.wakeFromHalt; split <;> rfl
@[simp] theorem State.wakeFromHalt_timerNotices (s : State) : s.wakeFromHalt.timerNotices = s.timerNotices := by unfold State.wakeFromHalt; split <;> rfl
@[simp] theorem State.wakeFromHalt_cycles (s : State) : s.wakeFromHalt.cycles = s.cycles := by unfold State.wakeFromHalt; split <;> rfl
@[simp] theorem State.wakeFromHalt_host (s : State) : s.wakeFromHalt.host = s.host := by unfold State.wakeFromHalt; split <;> rfl

@[simp] theorem State.deferredCheck_a (s : State) (op : Byte) : (s.deferredCheck op).a = s.a := by unfold State.deferredCheck; dsimp only; split <;> split <;> rfl
@[simp] theorem State.deferredCheck_b (s : State) (op : Byte) : (s.deferredCheck op).b = s.b := by unfold State.deferredCheck; dsimp only; split <;> split <;> rfl
@[simp] theorem State.deferredCheck_c (s : State) (op : Byte) : (s.deferredCheck op).c = s.c := by unfold State.deferredCheck; dsimp only; split <;> split <;> rfl
@[simp] theorem State.deferredCheck_d (s : State) (op : Byte) : (s.deferredCheck op).d = s.d := by unfold State.deferredCheck; dsimp only; split <;> split <;> rfl
@[simp] theorem State.deferredCheck_e (s : State) (op : Byte) : (s.deferredCheck op).e = s.e := by unfold State.deferredCheck; dsimp only; split <;> split <;> rfl
@[simp] theorem State.deferredCheck_hl (s : State) (op : Byte) : (s.deferredCheck op).hl = s.hl := by unfold State.deferredCheck; dsimp only; split <;> split <;> rfl
@[simp] theorem State.deferredCheck_sp (s : State) (op : Byte) : (s.deferredCheck op).sp = s.sp := by unfold State.deferredCheck; dsimp only; split <;> split <;> rfl
@[simp] theorem State.deferredCheck_pc (s : State) (op : Byte) : (s.deferredCheck op).pc = s.pc := by unfold State.deferredCheck; dsimp only; split <;> split <;> rfl
@[simp] theorem State.deferredCheck_zero (s : State) (op : Byte) : (s.deferredCheck op).zero = s.zero := by unfold State.deferredCheck; dsimp only; split <;> split <;> rfl
@[simp] theorem State.deferredCheck_sub (s : State) (op : Byte) : (s.deferredCheck op).sub = s.sub := by unfold State.deferredCheck; dsimp only; split <;> split <;> rfl
@[simp] theorem State.deferredCheck_halfCarry (s : State) (op : Byte) : (s.deferredCheck op).halfCarry = s.halfCarry := by unfold State.deferredCheck; dsimp only; split <;> split <;> rfl
@[simp] theorem State.deferredCheck_carry (s : State) (op : Byte) : (s.deferredCheck op).carry = s.carry := by unfold State.deferredCheck; dsimp only; split <;> split <;> rfl
@[simp] theorem State.deferredCheck_halted (s : State) (op : Byte) : (s.deferredCheck op).halted = s.halted := by unfold State.deferredCheck; dsimp only; split <;> split <;> rfl
@[simp] theorem State.deferredCheck_mem (s : State) (op : Byte) : (s.deferredCheck op).mem = s.mem := by unfold State.deferredCheck; dsimp only; split <;> split <;> rfl
@[simp] theorem State.deferredCheck_cart (s : State) (op : Byte) : (s.deferredCheck op).cart = s.cart := by unfold State.deferredCheck; dsimp only; split <;> split <;> rfl
@[simp] theorem State.deferredCheck_timerNotices (s : State) (op : Byte) : (s.deferredCheck op).timerNotices = s.timerNotices := by unfold State.deferredCheck; dsimp only; split <;> split <;> rfl
@[simp] theorem State.deferredCheck_cycles (s : State) (op : Byte) : (s.deferredCheck op).cycles = s.cycles := by unfold State.deferredCheck; dsimp only; split <;> split <;> rfl
@[simp] theorem State.deferredCheck_host (s : State) (op : Byte) : (s.deferredCheck op).host = s.host := by unfold State.deferredCheck; dsimp only; split <;> split <;> rfl

@[simp] theorem State.writePlain_a (s : State) (x : Word) (v : Byte) : (s.writePlain x v).a = s.a := by rw [State.writePlain_eq]
@[simp] theorem State.writePlain_b (s : State) (x : Word) (v : Byte) : (s.writePlain x v).b = s.b := by rw [State.writePlain_eq]
@[simp] theorem State.writePlain_c (s : State) (x : Word) (v : Byte) : (s.writePlain x v).c = s.c := by rw [State.writePlain_eq]
@[simp] theorem State.writePlain_d (s : State) (x : Word) (v : Byte) : (s.writePlain x v).d = s.d := by rw [State.writePlain_eq]
@[simp] theorem State.writePlain_e (s : State) (x : Word) (v : Byte) : (s.writePlain x v).e = s.e := by rw [State.writePlain_eq]
@[simp] theorem State.writePlain_hl (s : State) (x : Word) (v : Byte) : (s.writePlain x v).hl = s.hl := by rw [State.writePlain_eq]
@[simp] theorem State.writePlain_sp (s : State) (x : Word) (v : Byte) : (s.writePlain x v).sp = s.sp := by rw [State.writePlain_eq]
@[simp] theorem State.writePlain_pc (s : State) (x : Word) (v : Byte) : (s.writePlain x v).pc = s.pc := by rw [State.writePlain_eq]
@[simp] theorem State.writePlain_zero (s : State) (x : Word) (v : Byte) : (s.writePlain x v).zero = s.zero := by rw [State.writePlain_eq]
@[simp] theorem State.writePlain_sub (s : State) (x : Word) (v : Byte) : (s.writePlain x v).sub = s.sub := by rw [State.writePlain_eq]
@[simp] theorem State.writePlain_halfCarry (s : State) (x : Word) (v : Byte) : (s.writePlain x v).halfCarry = s.halfCarry := by rw [State.writePlain_eq]
@[simp] theorem State.writePlain_carry (s : State) (x : Word) (v : Byte) : (s.writePlain x v).carry = s.carry := by rw [State.writePlain_eq]
@[simp] theorem State.writePlain_ime (s : State) (x : Word) (v : Byte) : (s.writePlain x v).ime = s.ime := by rw [State.writePlain_eq]
@[simp] theorem State.writePlain_pendingDisable (s : State) (x : Word) (v : Byte) : (s.writePlain x v).pendingDisable = s.pendingDisable := by rw [State.writePlain_eq]
@[simp] theorem State.writePlain_pendingEnable (s : State) (x : Word) (v : Byte) : (s.writePlain x v).pendingEnable = s.pendingEnable := by rw [State.writePlain_eq]
@[simp] theorem State.writePlain_halted (s : State) (x : Word) (v : Byte) : (s.writePlain x v).halted = s.halted := by rw [State.writePlain_eq]
@[simp] theorem State.writePlain_cycles (s : State) (x : Word) (v : Byte) : (s.writePlain x v).cycles = s.cycles := by rw [State.writePlain_eq]
@[simp] theorem State.writePlain_host (s : State) (x : Word) (v : Byte) : (s.writePlain x v).host = s.host := by rw [State.writePlain_eq]

@[simp] theorem State.writeTimerControl_a (s : State) (v : Byte) : (s.writeTimerControl v).a = s.a := by rw [State.writeTimerControl_eq]
@[simp] theorem State.writeTimerControl_b (s : State) (v : Byte) : (s.writeTimerControl v).b = s.b := by rw [State.writeTimerControl_eq]
@[simp] theorem State.writeTimerControl_c (s : State) (v : Byte) : (s.writeTimerControl v).c = s.c := by rw [State.writeTimerControl_eq]
@[simp] theorem State.writeTimerControl_d (s : State) (v : Byte) : (s.writeTimerControl v).d = s.d := by rw [State.writeTimerControl_eq]
@[simp] theorem State.writeTimerControl_e (s : State) (v : Byte) : (s.writeTimerControl v).e = s.e := by rw [State.writeTimerControl_eq]
@[simp] theorem State.writeTimerControl_hl (s : State) (v : Byte) : (s.writeTimerControl v).hl = s.hl := by rw [State.writeTimerControl_eq]
@[simp] theorem State.writeTimerControl_sp (s : State) (v : Byte) : (s.writeTimerControl v).sp = s.sp := by rw [State.writeTimerControl_eq]
@[simp] theorem State.writeTimerControl_pc (s : State) (v : Byte) : (s.writeTimerControl v).pc = s.pc := by rw [State.writeTimerControl_eq]
@[simp] theorem State.writeTimerControl_zero (s : State) (v : Byte) : (s.writeTimerControl v).zero = s.zero := by rw [State.writeTimerControl_eq]
@[simp] theorem State.writeTimerControl_sub (s : State) (v : Byte) : (s.writeTimerControl v).sub = s.sub := by rw [State.writeTimerControl_eq]
@[simp] theorem State.writeTimerControl_halfCarry (s : State) (v : Byte) : (s.writeTimerControl v).halfCarry = s.halfCarry := by rw [State.writeTimerControl_eq]
@[simp] theorem State.writeTimerControl_carry (s : State) (v : Byte) : (s.writeTimerControl v).carry = s.carry := by rw [State.writeTimerControl_eq]
@[simp] theorem State.writeTimerControl_ime (s : State) (v : Byte) : (s.writeTimerControl v).ime = s.ime := by rw [State.writeTimerControl_eq]
@[simp] theorem State.writeTimerControl_pendingDisable (s : State) (v : Byte) : (s.writeTimerControl v).pendingDisable = s.pendingDisable := by rw [State.writeTimerControl_eq]
@[simp] theorem State.writeTimerControl_pendingEnable (s : State) (v : Byte) : (s.writeTimerControl v).pendingEnable = s.pendingEnable := by rw [State.writeTimerControl_eq]
@[simp] theorem State.writeTimerControl_halted (s : State) (v : Byte) : (s.writeTimerControl v).halted = s.halted := by rw [State.writeTimerControl_eq]
@[simp] theorem State.writeTimerControl_cycles (s : State) (v : Byte) : (s.writeTimerControl v).cycles = s.cycles := by rw [State.writeTimerControl_eq]
@[simp] theorem State.writeTimerControl_host (s : State) (v : Byte) : (s.writeTimerControl v).host = s.host := by rw [State.writeTimerControl_eq]

@[simp] theorem State.writeInner_a (s : State) (x : Word) (v : Byte) : (s.writeInner x v).a = s.a := by rw [State.writeInner_eq]
@[simp] theorem State.writeInner_b (s : State) (x : Word) (v : Byte) : (s.writeInner x v).b = s.b := by rw [State.writeInner_eq]
@[simp] theorem State.writeInner_c (s : State) (x : Word) (v : Byte) : (s.writeInner x v).c = s.c := by rw [State.writeInner_eq]
@[simp] theorem State.writeInner_d (s : State) (x : Word) (v : Byte) : (s.writeInner x v).d = s.d := by rw [State.writeInner_eq]
@[simp] theorem State.writeInner_e (s : State) (x : Word) (v : Byte) : (s.writeInner x v).e = s.e := by rw [State.writeInner_eq]
@[simp] theorem State.writeInner_hl (s : State) (x : Word) (v : Byte) : (s.writeInner x v).hl = s.hl := by rw [State.writeInner_eq]
@[simp] theorem State.writeInner_sp (s : State) (x : Word) (v : Byte) : (s.writeInner x v).sp = s.sp := by rw [State.writeInner_eq]
@[simp] theorem State.writeInner_pc (s : State) (x : Word) (v : Byte) : (s.writeInner x v).pc = s.pc := by rw [State.writeInner_eq]
@[simp] theorem State.writeInner_zero (s : State) (x : Word) (v : Byte) : (s.writeInner x v).zero = s.zero := by rw [State.writeInner_eq]
@[simp] theorem State.writeInner_sub (s : State) (x : Word) (v : Byte) : (s.writeInner x v).sub = s.sub := by rw [State.writeInner_eq]
@[simp] theorem State.writeInner_halfCarry (s : State) (x : Word) (v : Byte) : (s.writeInner x v).halfCarry = s.halfCarry := by rw [State.writeInner_eq]
@[simp] theorem State.writeInner_carry (s : State) (x : Word) (v : Byte) : (s.writeInner x v).carry = s.carry := by rw [State.writeInner_eq]
@[simp] theorem State.writeInner_ime (s : State) (x : Word) (v : Byte) : (s.writeInner x v).ime = s.ime := by rw [State.writeInner_eq]
@[simp] theorem State.writeInner_pendingDisable (s : State) (x : Word) (v : Byte) : (s.writeInner x v).pendingDisable = s.pendingDisable := by rw [State.writeInner_eq]
@[simp] theorem State.writeInner_pendingEnable (s : State) (x : Word) (v : Byte) : (s.writeInner x v).pendingEnable = s.pendingEnable := by rw [State.writeInner_eq]
@[simp] theorem State.writeInner_halted (s : State) (x : Word) (v : Byte) : (s.writeInner x v).halted = s.halted := by rw [State.writeInner_eq]
@[simp] theorem State.writeInner_cycles (s : State) (x : Word) (v : Byte) : (s.writeInner x v).cycles = s.cycles := by rw [State.writeInner_eq]
@[simp] theorem State.writeInner_host (s : State) (x : Word) (v : Byte) : (s.writeInner x v).host = s.host := by rw [State.writeInner_eq]

@[simp] theorem State.dmaTransfer_a (s : State) (v : Byte) : (s.dmaTransfer v).a = s.a := by rw [State.dmaTransfer_eq]
@[simp] theorem State.dmaTransfer_b (s : State) (v : Byte) : (s.dmaTransfer v).b = s.b := by rw [State.dmaTransfer_eq]
@[simp] theorem State.dmaTransfer_c (s : State) (v : Byte) : (s.dmaTransfer v).c = s.c := by rw [State.dmaTransfer_eq]
@[simp] theorem State.dmaTransfer_d (s : State) (v : Byte) : (s.dmaTransfer v).d = s.d := by rw [State.dmaTransfer_eq]
@[simp] theorem State.dmaTransfer_e (s : State) (v : Byte) : (s.dmaTransfer v).e = s.e := by rw [State.dmaTransfer_eq]
@[simp] theorem State.dmaTransfer_hl (s : State) (v : Byte) : (s.dmaTransfer v).hl = s.hl := by rw [State.dmaTransfer_eq]
@[simp] theorem State.dmaTransfer_sp (s : State) (v : Byte) : (s.dmaTransfer v).sp = s.sp := by rw [State.dmaTransfer_eq]
@[simp] theorem State.dmaTransfer_pc (s : State) (v : Byte) : (s.dmaTransfer v).pc = s.pc := by rw [State.dmaTransfer_eq]
@[simp] theorem State.dmaTransfer_zero (s : State) (v : Byte) : (s.dmaTransfer v).zero = s.zero := by rw [State.dmaTransfer_eq]
@[simp] theorem State.dmaTransfer_sub (s : State) (v : Byte) : (s.dmaTransfer v).sub = s.sub := by rw [State.dmaTransfer_eq]
@[simp] theorem State.dmaTransfer_halfCarry (s : State) (v : Byte) : (s.dmaTransfer v).halfCarry = s.halfCarry := by rw [State.dmaTransfer_eq]
@[simp] theorem State.dmaTransfer_carry (s : State) (v : Byte) : (s.dmaTransfer v).carry = s.carry := by rw [State.dmaTransfer_eq]
@[simp] theorem State.dmaTransfer_ime (s : State) (v : Byte) : (s.dmaTransfer v).ime = s.ime := by rw [State.dmaTransfer_eq]
@[simp] theorem State.dmaTransfer_pendingDisable (s : State) (v : Byte) : (s.dmaTransfer v).pendingDisable = s.pendingDisable := by rw [State.dmaTransfer_eq]
@[simp] theorem State.dmaTransfer_pendingEnable (s : State) (v : Byte) : (s.dmaTransfer v).pendingEnable = s.pendingEnable := by rw [State.dmaTransfer_eq]
@[simp] theorem State.dmaTransfer_halted (s : State) (v : Byte) : (s.dmaTransfer v).halted = s.halted := by rw [State.dmaTransfer_eq]
@[simp] theorem State.dmaTransfer_cycles (s : State) (v : Byte) : (s.dmaTransfer v).cycles = s.cycles := by rw [State.dmaTransfer_eq]
@[simp] theorem State.dmaTransfer_host (s : State) (v : Byte) : (s.dmaTransfer v).host = s.host := by rw [State.dmaTransfer_eq]

@[simp] theorem State.writeByte_a (s : State) (x : Word) (v : Byte) : (s.writeByte x v).a = s.a := by rw [State.writeByte_eq]
@[simp] theorem State.writeByte_b (s : State) (x : Word) (v : Byte) : (s.writeByte x v).b = s.b := by rw [State.writeByte_eq]
@[simp] theorem State.writeByte_c (s : State) (x : Word) (v : Byte) : (s.writeByte x v).c = s.c := by rw [State.writeByte_eq]
@[simp] theorem State.writeByte_d (s : State) (x : Word) (v : Byte) : (s.writeByte x v).d = s.d := by rw [State.writeByte_eq]
@[simp] theorem State.writeByte_e (s : State) (x : Word) (v : Byte) : (s.writeByte x v).e = s.e := by rw [State.writeByte_eq]
@[simp] theorem State.writeByte_hl (s : State) (x : Word) (v : Byte) : (s.writeByte x v).hl = s.hl := by rw [State.writeByte_eq]
@[simp] theorem State.writeByte_sp (s : State) (x : Word) (v : Byte) : (s.writeByte x v).sp = s.sp := by rw [State.writeByte_eq]
@[simp] theorem State.writeByte_pc (s : State) (x : Word) (v : Byte) : (s.writeByte x v).pc = s.pc := by rw [State.writeByte_eq]
@[simp] theorem State.writeByte_zero (s : State) (x : Word) (v : Byte) : (s.writeByte x v).zero = s.zero := by rw [State.writeByte_eq]
@[simp] theorem State.writeByte_sub (s : State) (x : Word) (v : Byte) : (s.writeByte x v).sub = s.sub := by rw [State.writeByte_eq]
@[simp] theorem State.writeByte_halfCarry (s : State) (x : Word) (v : Byte) : (s.writeByte x v).halfCarry = s.halfCarry := by rw [State.writeByte_eq]
@[simp] theorem State.writeByte_carry (s : State) (x : Word) (v : Byte) : (s.writeByte x v).carry = s.carry := by rw [State.writeByte_eq]
@[simp] theorem State.writeByte_ime (s : State) (x : Word) (v : Byte) : (s.writeByte x v).ime = s.ime := by rw [State.writeByte_eq]
@[simp] theorem State.writeByte_pendingDisable (s : State) (x : Word) (v : Byte) : (s.writeByte x v).pendingDisable = s.pendingDisable := by rw [State.writeByte_eq]
@[simp] theorem State.writeByte_pendingEnable (s : State) (x : Word) (v : Byte) : (s.writeByte x v).pendingEnable = s.pendingEnable := by rw [State.writeByte_eq]
@[simp] theorem State.writeByte_halted (s : State) (x : Word) (v : Byte) : (s.writeByte x v).halted = s.halted := by rw [State.writeByte_eq]
@[simp] theorem State.writeByte_cycles (s : State) (x : Word) (v : Byte) : (s.writeByte x v).cycles = s.cycles := by rw [State.writeByte_eq]
@[simp] theorem State.writeByte_host (s : State) (x : Word) (v : Byte) : (s.writeByte x v).host = s.host := by rw [State.writeByte_eq]

@[simp] theorem State.writeWord_a (s : State) (x : Word) (w : Word) : (s.writeWord x w).a = s.a := by simp [State.writeWord]
@[simp] theorem State.writeWord_b (s : State) (x : Word) (w : Word) : (s.writeWord x w).b = s.b := by simp [State.writeWord]
@[simp] theorem State.writeWord_c (s : State) (x : Word) (w : Word) : (s.writeWord x w).c = s.c := by simp [State.writeWord]
@[simp] theorem State.writeWord_d (s : State) (x : Word) (w : Word) : (s.writeWord x w).d = s.d := by simp [State.writeWord]
@[simp] theorem State.writeWord_e (s : State) (x : Word) (w : Word) : (s.writeWord x w).e = s.e := by simp [State.writeWord]
@[simp] theorem State.writeWord_hl (s : State) (x : Word) (w : Word) : (s.writeWord x w).hl = s.hl := by simp [State.writeWord]
@[simp] theorem State.writeWord_sp (s : State) (x : Word) (w : Word) : (s.writeWord x w).sp = s.sp := by simp [State.writeWord]
@[simp] theorem State.writeWord_pc (s : State) (x : Word) (w : Word) : (s.writeWord x w).pc = s.pc := by simp [State.writeWord]
@[simp] theorem State.writeWord_zero (s : State) (x : Word) (w : Word) : (s.writeWord x w).zero = s.zero := by simp [State.writeWord]
@[simp] theorem State.writeWord_sub (s : State) (x : Word) (w : Word) : (s.writeWord x w).sub = s.sub := by simp [State.writeWord]
@[simp] theorem State.writeWord_halfCarry (s : State) (x : Word) (w : Word) : (s.writeWord x w).halfCarry = s.halfCarry := by simp [State.writeWord]
@[simp] theorem State.writeWord_carry (s : State) (x : Word) (w : Word) : (s.writeWord x w).carry = s.carry := by simp [State.writeWord]
@[simp] theorem State.writeWord_ime (s : State) (x : Word) (w : Word) : (s.writeWord x w).ime = s.ime := by simp [State.writeWord]
@[simp] theorem State.writeWord_pendingDisable (s : State) (x : Word) (w : Word) : (s.writeWord x w).pendingDisable = s.pendingDisable := by simp [State.writeWord]
@[simp] theorem State.writeWord_pendingEnable (s : State) (x : Word) (w : Word) : (s.writeWord x w).pendingEnable = s.pendingEnable := by simp [State.writeWord]
@[simp] theorem State.writeWord_halted (s : State) (x : Word) (w : Word) : (s.writeWord x w).halted = s.halted := by simp [State.writeWord]
@[simp] theorem State.writeWord_cycles (s : State) (x : Word) (w : Word) : (s.writeWord x w).cycles = s.cycles := by simp [State.writeWord]
@[simp] theorem State.writeWord_host (s : State) (x : Word) (w : Word) : (s.writeWord x w).host = s.host := by simp [State.writeWord]

@[simp] theorem State.setOperand_sp (s : State) (x : Operand8) (v : Byte) : (s.setOperand x v).sp = s.sp := by cases x <;> simp [State.setOperand]
@[simp] theorem State.setOperand_pc (s : State) (x : Operand8) (v : Byte) : (s.setOperand x v).pc = s.pc := by cases x <;> simp [State.setOperand]
@[simp] theorem State.setOperand_zero (s : State) (x : Operand8) (v : Byte) : (s.setOperand x v).zero = s.zero := by cases x <;> simp [State.setOperand]
@[simp] theorem State.setOperand_sub (s : State) (x : Operand8) (v : Byte) : (s.setOperand x v).sub = s.sub := by cases x <;> simp [State.setOperand]
@[simp] theorem State.setOperand_halfCarry (s : State) (x : Operand8) (v : Byte) : (s.setOperand x v).halfCarry = s.halfCarry := by cases x <;> simp [State.setOperand]
@[simp] theorem State.setOperand_carry (s : State) (x : Operand8) (v : Byte) : (s.setOperand x v).carry = s.carry := by cases x <;> simp [State.setOperand]
@[simp] theorem State.setOperand_ime (s : State) (x : Operand8) (v : Byte) : (s.setOperand x v).ime = s.ime := by cases x <;> simp [State.setOperand]
@[simp] theorem State.setOperand_pendingDisable (s : State) (x : Operand8) (v : Byte) : (s.setOperand x v).pendingDisable = s.pendingDisable := by cases x <;> simp [State.setOperand]
@[simp] theorem State.setOperand_pendingEnable (s : State) (x : Operand8) (v : Byte) : (s.setOperand x v).pendingEnable = s.pendingEnable := by cases x <;> simp [State.setOperand]
@[simp] theorem State.setOperand_halted (s : State) (x : Operand8) (v : Byte) : (s.setOperand x v).halted = s.halted := by cases x <;> simp [State.setOperand]
@[simp] theorem State.setOperand_cycles (s : State) (x : Operand8) (v : Byte) : (s.setOperand x v).cycles = s.cycles := by cases x <;> simp [State.setOperand]
@[simp] theorem State.setOperand_host (s : State) (x : Operand8) (v : Byte) : (s.setOperand x v).host = s.host := by cases x <;> simp [State.setOperand]

@[simp] theorem State.pushByte_a (s : State) (v : Byte) : (s.pushByte v).a = s.a := by simp [State.pushByte]
@[simp] theorem State.pushByte_b (s : State) (v : Byte) : (s.pushByte v).b = s.b := by simp [State.pushByte]
@[simp] theorem State.pushByte_c (s : State) (v : Byte) : (s.pushByte v).c = s.c := by simp [State.pushByte]
@[simp] theorem State.pushByte_d (s : State) (v : Byte) : (s.pushByte v).d = s.d := by simp [State.pushByte]
@[simp] theorem State.pushByte_e (s : State) (v : Byte) : (s.pushByte v).e = s.e := by simp [State.pushByte]
@[simp] theorem State.pushByte_hl (s : State) (v : Byte) : (s.pushByte v).hl = s.hl := by simp [State.pushByte]
@[simp] theorem State.pushByte_pc (s : State) (v : Byte) : (s.pushByte v).pc = s.pc := by simp [State.pushByte]
@[simp] theorem State.pushByte_zero (s : State) (v : Byte) : (s.pushByte v).zero = s.zero := by simp [State.pushByte]
@[simp] theorem State.pushByte_sub (s : State) (v : Byte) : (s.pushByte v).sub = s.sub := by simp [State.pushByte]
@[simp] theorem State.pushByte_halfCarry (s : State) (v : Byte) : (s.pushByte v).halfCarry = s.halfCarry := by simp [State.pushByte]
@[simp] theorem State.pushByte_carry (s : State) (v : Byte) : (s.pushByte v).carry = s.carry := by simp [State.pushByte]
@[simp] theorem State.pushByte_ime (s : State) (v : Byte) : (s.pushByte v).ime = s.ime := by simp [State.pushByte]
@[simp] theorem State.pushByte_pendingDisable (s : State) (v : Byte) : (s.pushByte v).pendingDisable = s.pendingDisable := by simp [State.pushByte]
@[simp] theorem State.pushByte_pendingEnable (s : State) (v : Byte) : (s.pushByte v).pendingEnable = s.pendingEnable := by simp [State.pushByte]
@[simp] theorem State.pushByte_halted (s : State) (v : Byte) : (s.pushByte v).halted = s.halted := by simp [State.pushByte]
@[simp] theorem State.pushByte_cycles (s : State) (v : Byte) : (s.pushByte v).cycles = s.cycles := by simp [State.pushByte]
@[simp] theorem State.pushByte_host (s : State) (v : Byte) : (s.pushByte v).host = s.host := by simp [State.pushByte]

@[simp] theorem State.stackPush_a (s : State) (w : Word) : (s.stackPush w).a = s.a := by simp [State.stackPush]
@[simp] theorem State.stackPush_b (s : State) (w : Word) : (s.stackPush w).b = s.b := by simp [State.stackPush]
@[simp] theorem State.stackPush_c (s : State) (w : Word) : (s.stackPush w).c = s.c := by simp [State.stackPush]
@[simp] theorem State.stackPush_d (s : State) (w : Word) : (s.stackPush w).d = s.d := by simp [State.stackPush]
@[simp] theorem State.stackPush_e (s : State) (w : Word) : (s.stackPush w).e = s.e := by simp [State.stackPush]
@[simp] theorem State.stackPush_hl (s : State) (w : Word) : (s.stackPush w).hl = s.hl := by simp [State.stackPush]
@[simp] theorem State.stackPush_pc (s : State) (w : Word) : (s.stackPush w).pc = s.pc := by simp [State.stackPush]
@[simp] theorem State.stackPush_zero (s : State) (w : Word) : (s.stackPush w).zero = s.zero := by simp [State.stackPush]
@[simp] theorem State.stackPush_sub (s : State) (w : Word) : (s.stackPush w).sub = s.sub := by simp [State.stackPush]
@[simp] theorem State.stackPush_halfCarry (s : State) (w : Word) : (s.stackPush w).halfCarry = s.halfCarry := by simp [State.stackPush]
@[simp] theorem State.stackPush_carry (s : State) (w : Word) : (s.stackPush w).carry = s.carry := by simp [State.stackPush]
@[simp] theorem State.stackPush_ime (s : State) (w : Word) : (s.stackPush w).ime = s.ime := by simp [State.stackPush]
@[simp] theorem State.stackPush_pendingDisable (s : State) (w : Word) : (s.stackPush w).pendingDisable = s.pendingDisable := by simp [State.stackPush]
@[simp] theorem State.stackPush_pendingEnable (s : State) (w : Word) : (s.stackPush w).pendingEnable = s.pendingEnable := by simp [State.stackPush]
@[simp] theorem State.stackPush_halted (s : State) (w : Word) : (s.stackPush w).halted = s.halted := by simp [State.stackPush]
@[simp] theorem State.stackPush_cycles (s : State) (w : Word) : (s.stackPush w).cycles = s.cycles := by simp [State.stackPush]
@[simp] theorem State.stackPush_host (s : State) (w : Word) : (s.stackPush w).host = s.host := by simp [State.stackPush]

@[simp] theorem State.takeInterrupt_a (s : State) (i : Nat) : (s.takeInterrupt i).a = s.a := by simp [State.takeInterrupt]
@[simp] theorem State.takeInterrupt_b (s : State) (i : Nat) : (s.takeInterrupt i).b = s.b := by simp [State.takeInterrupt]
@[simp] theorem State.takeInterrupt_c (s : State) (i : Nat) : (s.takeInterrupt i).c = s.c := by simp [State.takeInterrupt]
@[simp] theorem State.takeInterrupt_d (s : State) (i : Nat) : (s.takeInterrupt i).d = s.d := by simp [State.takeInterrupt]
@[simp] theorem State.takeInterrupt_e (s : State) (i : Nat) : (s.takeInterrupt i).e = s.e := by simp [State.takeInterrupt]
@[simp] theorem State.takeInterrupt_hl (s : State) (i : Nat) : (s.takeInterrupt i).hl = s.hl := by simp [State.takeInterrupt]
@[simp] theorem State.takeInterrupt_zero (s : State) (i : Nat) : (s.takeInterrupt i).zero = s.zero := by simp [State.takeInterrupt]
@[simp] theorem State.takeInterrupt_sub (s : State) (i : Nat) : (s.takeInterrupt i).sub = s.sub := by simp [State.takeInterrupt]
@[simp] theorem State.takeInterrupt_halfCarry (s : State) (i : Nat) : (s.takeInterrupt i).halfCarry = s.halfCarry := by simp [State.takeInterrupt]
@[simp] theorem State.takeInterrupt_carry (s : State) (i : Nat) : (s.takeInterrupt i).carry = s.carry := by simp [State.takeInterrupt]
@[simp] theorem State.takeInterrupt_pendingDisable (s : State) (i : Nat) : (s.takeInterrupt i).pendingDisable = s.pendingDisable := by simp [State.takeInterrupt]
@[simp] theorem State.takeInterrupt_pendingEnable (s : State) (i : Nat) : (s.takeInterrupt i).pendingEnable = s.pendingEnable := by simp [State.takeInterrupt]
@[simp] theorem State.takeInterrupt_cycles (s : State) (i : Nat) : (s.takeInterrupt i).cycles = s.cycles := by simp [State.takeInterrupt]
@[simp] theorem State.takeInterrupt_host (s : State) (i : Nat) : (s.takeInterrupt i).host = s.host := by simp [State.takeInterrupt]

@[simp] theorem State.setFlags_zero (s : State) (z n hc cy : Bool) : (s.setFlags z n hc cy).zero = z := rfl
@[simp] theorem State.setFlags_sub (s : State) (z n hc cy : Bool) : (s.setFlags z n hc cy).sub = n := rfl
@[simp] theorem State.setFlags_halfCarry (s : State) (z n hc cy : Bool) : (s.setFlags z n hc cy).halfCarry = hc := rfl
@[simp] theorem State.setFlags_carry (s : State) (z n hc cy : Bool) : (s.setFlags z n hc cy).carry = cy := rfl
@[simp] theorem State.stackDrop_sp (s : State) : s.stackDrop.sp = s.sp + 2 := rfl
@[simp] theorem State.pushByte_sp (s : State) (v : Byte) : (s.pushByte v).sp = s.sp - 1 := by simp [State.pushByte]
@[simp] theorem State.stackPush_sp (s : State) (w : Word) : (s.stackPush w).sp = s.sp - 1 - 1 := by simp [State.stackPush]
@[simp] theorem State.storeCell_mem (s : State) (x : Word) (v : Byte) :
    (s.storeCell x v).mem = s.mem.write x.toNat v := rfl
@[simp] theorem State.bankWrite_writes (s : State) (x : Word) (v : Byte) :
    (s.bankWrite x v).cart.writes = (x, v) :: s.cart.writes := rfl
@[simp] theorem State.bankWrite_fixed (s : State) (x : Word) (v : Byte) :
    (s.bankWrite x v).cart.fixed = s.cart.fixed := rfl

end Sys2Proof.Machine
end

