-- ==== Sys2Proof/Laws/Action.lean ====
section
/-! SUPPORT. The meanings of the 502 constructors, sorted into some forty forms: a proof about every instruction
splits on `Action`, not on `Instr`. -/

namespace Sys2Proof.Laws

open Sys2Proof.Machine

/-- Where an 8-bit load or store finds its byte. -/
inductive Mode where
  | hl
  | bc
  | de
  | abs (w : Word)
  | page (n : Byte)
  | pageC

/-- The address of a mode. -/
def Mode.addr (s : State) : Mode → Word
  | .hl => s.hl
  | .bc => s.bc
  | .de => s.de
  | .abs w => w
  | .page n => pageFF n
  | .pageC => pageFF s.c

/-- The eight ALU operations. -/
inductive Alu where
  | add
  | adc
  | sub
  | sbc
  | and
  | xor
  | or
  | cp

/-- An ALU operation on a byte. -/
def Alu.run : Alu → Byte → State → State
  | .add => add8
  | .adc => adc8
  | .sub => sub8
  | .sbc => sbc8
  | .and => and8
  | .xor => xor8
  | .or => or8
  | .cp => cp8

/-- The second operand of an ALU operation. -/
inductive AluSrc where
  | operand (x : Operand8)
  | imm (n : Byte)

/-- Its value. -/
def AluSrc.val (s : State) : AluSrc → Byte
  | .operand x => s.operand x
  | .imm n => n

/-- The forms of a meaning. -/
inductive Action where
  | nop
  | halt
  | stop
  | di
  | ei
  | unassigned (op : Byte)
  | loadReg (dst src : Reg8)
  | loadFrom (dst : Reg8) (m : Mode)
  | storeReg (r : Reg8) (m : Mode)
  | loadImm (r : Reg8) (n : Byte)
  | storeImm (n : Byte)
  | storeAStep (k : Word)
  | loadAStep (k : Word)
  | loadImm16 (p : Reg16) (w : Word)
  | storeSp (w : Word)
  | loadSpHl
  | loadHlSp (e : Byte)
  | push (p : StackReg)
  | pop (p : StackReg)
  | alu (o : Alu) (x : AluSrc)
  | inc8 (x : Operand8)
  | dec8 (x : Operand8)
  | daa
  | cpl
  | scf
  | ccf
  | addHl (p : Reg16)
  | step16 (p : Reg16) (k : Word)
  | addSp (e : Byte)
  | rotateA (rot : Byte → Bool → Byte × Bool)
  | rotateAt (rot : Byte → Bool → Byte × Bool) (x : Operand8)
  | bitTest (b : Nat) (x : Operand8)
  | bitReset (b : Nat) (x : Operand8)
  | bitSet (b : Nat) (x : Operand8)
  | extended (op2 : Byte)
  | jumpHl
  | jump (cc : Option Cond) (w : Word)
  | jumpRel (cc : Option Cond) (e : Byte)
  | call (cc : Option Cond) (w : Word)
  | ret (cc : Option Cond)
  | reti

/-- Under a condition, or always. -/
def onCond (cc : Option Cond) (taken : State → State) (s : State) : State :=
  match cc with
  | none => taken s
  | some cc => ifHolds cc taken s

/-- What a form does. -/
def Action.run (s : State) : Action → Out
  | .nop => .next s
  | .halt => .next { s with halted := true }
  | .stop => .next s
  | .di => .next { s with pendingDisable := true }
  | .ei => .next { s with pendingEnable := true }
  | .unassigned op => raiseUnassigned op s
  | .loadReg dst src => .next (Machine.loadReg dst src s)
  | .loadFrom dst m => .next (Machine.loadFrom dst (m.addr s) s)
  | .storeReg r m => .next (Machine.storeReg r (m.addr s) s)
  | .loadImm r n => .next (s.setReg r n)
  | .storeImm n => .next (s.writeByte s.hl n)
  | .storeAStep k => .next (Machine.storeAStep k s)
  | .loadAStep k => .next (Machine.loadAStep k s)
  | .loadImm16 p w => .next (s.setReg16 p w)
  | .storeSp w => .next (s.writeWord w s.sp)
  | .loadSpHl => .next { s with sp := s.hl }
  | .loadHlSp e => .next (Machine.loadHlSp e s)
  | .push p => .next (pushReg p s)
  | .pop p => .next (popReg p s)
  | .alu o x => .next (o.run (x.val s) s)
  | .inc8 x => .next (Machine.inc8 x s)
  | .dec8 x => .next (Machine.dec8 x s)
  | .daa => .next s.decimalAdjust
  | .cpl => .next (({ s with a := ~~~s.a } : State).setFlags s.zero true true s.carry)
  | .scf => .next (s.setFlags s.zero false false true)
  | .ccf => .next (s.setFlags s.zero false false (!s.carry))
  | .addHl p => .next (s.addToHl (s.reg16 p))
  | .step16 p k => .next (Machine.step16 p k s)
  | .addSp e => .next (Machine.addSp e s)
  | .rotateA rot => .next (Machine.rotateA rot s)
  | .rotateAt rot x => .next (Machine.rotateAt rot x s)
  | .bitTest b x => .next (Machine.bitTest b x s)
  | .bitReset b x => .next (Machine.bitReset b x s)
  | .bitSet b x => .next (Machine.bitSet b x s)
  | .extended op2 => .next (runExtended op2 s)
  | .jumpHl => .next (Machine.jump s.hl s)
  | .jump cc w => .next (onCond cc (Machine.jump w) s)
  | .jumpRel cc e => .next (onCond cc (Machine.jumpRel e) s)
  | .call cc w => .next (onCond cc (callTo w) s)
  | .ret cc => .next (onCond cc Machine.ret s)
  | .reti => .next s.returnFromInterrupt

/-- The form of each instruction's meaning. -/
def action : Instr → Action
  | .ldBcD16 w => .loadImm16 .bc w
  | .ldBD8 n => .loadImm .b n
  | .ldMemA16Sp w => .storeSp w
  | .ldCD8 n => .loadImm .c n
  | .stop _ => .stop
  | .ldDeD16 w => .loadImm16 .de w
  | .ldDD8 n => .loadImm .d n
  | .jrE8 e => .jumpRel none e
  | .ldED8 n => .loadImm .e n
  | .jrNzE8 e => .jumpRel (some .nz) e
  | .ldHlD16 w => .loadImm16 .hl w
  | .ldHD8 n => .loadImm .h n
  | .jrZE8 e => .jumpRel (some .z) e
  | .ldLD8 n => .loadImm .l n
  | .jrNcE8 e => .jumpRel (some .nc) e
  | .ldSpD16 w => .loadImm16 .sp w
  | .ldMemHlD8 n => .storeImm n
  | .jrCE8 e => .jumpRel (some .c) e
  | .ldAD8 n => .loadImm .a n
  | .jpNzA16 w => .jump (some .nz) w
  | .jpA16 w => .jump none w
  | .callNzA16 w => .call (some .nz) w
  | .addAD8 n => .alu .add (.imm n)
  | .jpZA16 w => .jump (some .z) w
  | .prefixCb op2 => .extended op2
  | .callZA16 w => .call (some .z) w
  | .callA16 w => .call none w
  | .adcAD8 n => .alu .adc (.imm n)
  | .jpNcA16 w => .jump (some .nc) w
  | .unassigned op => .unassigned op
  | .callNcA16 w => .call (some .nc) w
  | .subD8 n => .alu .sub (.imm n)
  | .jpCA16 w => .jump (some .c) w
  | .callCA16 w => .call (some .c) w
  | .sbcAD8 n => .alu .sbc (.imm n)
  | .ldhMemA8A n => .storeReg .a (.page n)
  | .andD8 n => .alu .and (.imm n)
  | .addSpE8 e => .addSp e
  | .ldMemA16A w => .storeReg .a (.abs w)
  | .xorD8 n => .alu .xor (.imm n)
  | .ldhAMemA8 n => .loadFrom .a (.page n)
  | .orD8 n => .alu .or (.imm n)
  | .ldHlSpE8 e => .loadHlSp e
  | .ldAMemA16 w => .loadFrom .a (.abs w)
  | .cpD8 n => .alu .cp (.imm n)
  | .nop => .nop
  | .ldMemBcA => .storeReg .a .bc
  | .incBc => .step16 .bc 1
  | .incB => .inc8 (.reg .b)
  | .decB => .dec8 (.reg .b)
  | .rlca => .rotateA rotLeft
  | .addHlBc => .addHl .bc
  | .ldAMemBc => .loadFrom .a .bc
  | .decBc => .step16 .bc (-1)
  | .incC => .inc8 (.reg .c)
  | .decC => .dec8 (.reg .c)
  | .rrca => .rotateA rotRight
  | .ldMemDeA => .storeReg .a .de
  | .incDe => .step16 .de 1
  | .incD => .inc8 (.reg .d)
  | .decD => .dec8 (.reg .d)
  | .rla => .rotateA rotLeftCarry
  | .addHlDe => .addHl .de
  | .ldAMemDe => .loadFrom .a .de
  | .decDe => .step16 .de (-1)
  | .incE => .inc8 (.reg .e)
  | .decE => .dec8 (.reg .e)
  | .rra => .rotateA rotRightCarry
  | .ldMemHliA => .storeAStep 1
  | .incHl => .step16 .hl 1
  | .incH => .inc8 (.reg .h)
  | .decH => .dec8 (.reg .h)
  | .daa => .daa
  | .addHlHl => .addHl .hl
  | .ldAMemHli => .loadAStep 1
  | .decHl => .step16 .hl (-1)
  | .incL => .inc8 (.reg .l)
  | .decL => .dec8 (.reg .l)
  | .cpl => .cpl
  | .ldMemHldA => .storeAStep (-1)
  | .incSp => .step16 .sp 1
  | .incMemHl => .inc8 .memHl
  | .decMemHl => .dec8 .memHl
  | .scf => .scf
  | .addHlSp => .addHl .sp
  | .ldAMemHld => .loadAStep (-1)
  | .decSp => .step16 .sp (-1)
  | .incA => .inc8 (.reg .a)
  | .decA => .dec8 (.reg .a)
  | .ccf => .ccf
  | .ldBB => .loadReg .b .b
  | .ldBC => .loadReg .b .c
  | .ldBD => .loadReg .b .d
  | .ldBE => .loadReg .b .e
  | .ldBH => .loadReg .b .h
  | .ldBL => .loadReg .b .l
  | .ldBMemHl => .loadFrom .b .hl
  | .ldBA => .loadReg .b .a
  | .ldCB => .loadReg .c .b
  | .ldCC => .loadReg .c .c
  | .ldCD => .loadReg .c .d
  | .ldCE => .loadReg .c .e
  | .ldCH => .loadReg .c .h
  | .ldCL => .loadReg .c .l
  | .ldCMemHl => .loadFrom .c .hl
  | .ldCA => .loadReg .c .a
  | .ldDB => .loadReg .d .b
  | .ldDC => .loadReg .d .c
  | .ldDD => .loadReg .d .d
  | .ldDE => .loadReg .d .e
  | .ldDH => .loadReg .d .h
  | .ldDL => .loadReg .d .l
  | .ldDMemHl => .loadFrom .d .hl
  | .ldDA => .loadReg .d .a
  | .ldEB => .loadReg .e .b
  | .ldEC => .loadReg .e .c
  | .ldED => .loadReg .e .d
  | .ldEE => .loadReg .e .e
  | .ldEH => .loadReg .e .h
  | .ldEL => .loadReg .e .l
  | .ldEMemHl => .loadFrom .e .hl
  | .ldEA => .loadReg .e .a
  | .ldHB => .loadReg .h .b
  | .ldHC => .loadReg .h .c
  | .ldHD => .loadReg .h .d
  | .ldHE => .loadReg .h .e
  | .ldHH => .loadReg .h .h
  | .ldHL => .loadReg .h .l
  | .ldHMemHl => .loadFrom .h .hl
  | .ldHA => .loadReg .h .a
  | .ldLB => .loadReg .l .b
  | .ldLC => .loadReg .l .c
  | .ldLD => .loadReg .l .d
  | .ldLE => .loadReg .l .e
  | .ldLH => .loadReg .l .h
  | .ldLL => .loadReg .l .l
  | .ldLMemHl => .loadFrom .l .hl
  | .ldLA => .loadReg .l .a
  | .ldMemHlB => .storeReg .b .hl
  | .ldMemHlC => .storeReg .c .hl
  | .ldMemHlD => .storeReg .d .hl
  | .ldMemHlE => .storeReg .e .hl
  | .ldMemHlH => .storeReg .h .hl
  | .ldMemHlL => .storeReg .l .hl
  | .halt => .halt
  | .ldMemHlA => .storeReg .a .hl
  | .ldAB => .loadReg .a .b
  | .ldAC => .loadReg .a .c
  | .ldAD => .loadReg .a .d
  | .ldAE => .loadReg .a .e
  | .ldAH => .loadReg .a .h
  | .ldAL => .loadReg .a .l
  | .ldAMemHl => .loadFrom .a .hl
  | .ldAA => .loadReg .a .a
  | .addAB => .alu .add (.operand (.reg .b))
  | .addAC => .alu .add (.operand (.reg .c))
  | .addAD => .alu .add (.operand (.reg .d))
  | .addAE => .alu .add (.operand (.reg .e))
  | .addAH => .alu .add (.operand (.reg .h))
  | .addAL => .alu .add (.operand (.reg .l))
  | .addAMemHl => .alu .add (.operand .memHl)
  | .addAA => .alu .add (.operand (.reg .a))
  | .adcAB => .alu .adc (.operand (.reg .b))
  | .adcAC => .alu .adc (.operand (.reg .c))
  | .adcAD => .alu .adc (.operand (.reg .d))
  | .adcAE => .alu .adc (.operand (.reg .e))
  | .adcAH => .alu .adc (.operand (.reg .h))
  | .adcAL => .alu .adc (.operand (.reg .l))
  | .adcAMemHl => .alu .adc (.operand .memHl)
  | .adcAA => .alu .adc (.operand (.reg .a))
  | .subB => .alu .sub (.operand (.reg .b))
  | .subC => .alu .sub (.operand (.reg .c))
  | .subD => .alu .sub (.operand (.reg .d))
  | .subE => .alu .sub (.operand (.reg .e))
  | .subH => .alu .sub (.operand (.reg .h))
  | .subL => .alu .sub (.operand (.reg .l))
  | .subMemHl => .alu .sub (.operand .memHl)
  | .subA => .alu .sub (.operand (.reg .a))
  | .sbcAB => .alu .sbc (.operand (.reg .b))
  | .sbcAC => .alu .sbc (.operand (.reg .c))
  | .sbcAD => .alu .sbc (.operand (.reg .d))
  | .sbcAE => .alu .sbc (.operand (.reg .e))
  | .sbcAH => .alu .sbc (.operand (.reg .h))
  | .sbcAL => .alu .sbc (.operand (.reg .l))
  | .sbcAMemHl => .alu .sbc (.operand .memHl)
  | .sbcAA => .alu .sbc (.operand (.reg .a))
  | .andB => .alu .and (.operand (.reg .b))
  | .andC => .alu .and (.operand (.reg .c))
  | .andD => .alu .and (.operand (.reg .d))
  | .andE => .alu .and (.operand (.reg .e))
  | .andH => .alu .and (.operand (.reg .h))
  | .andL => .alu .and (.operand (.reg .l))
  | .andMemHl => .alu .and (.operand .memHl)
  | .andA => .alu .and (.operand (.reg .a))
  | .xorB => .alu .xor (.operand (.reg .b))
  | .xorC => .alu .xor (.operand (.reg .c))
  | .xorD => .alu .xor (.operand (.reg .d))
  | .xorE => .alu .xor (.operand (.reg .e))
  | .xorH => .alu .xor (.operand (.reg .h))
  | .xorL => .alu .xor (.operand (.reg .l))
  | .xorMemHl => .alu .xor (.operand .memHl)
  | .xorA => .alu .xor (.operand (.reg .a))
  | .orB => .alu .or (.operand (.reg .b))
  | .orC => .alu .or (.operand (.reg .c))
  | .orD => .alu .or (.operand (.reg .d))
  | .orE => .alu .or (.operand (.reg .e))
  | .orH => .alu .or (.operand (.reg .h))
  | .orL => .alu .or (.operand (.reg .l))
  | .orMemHl => .alu .or (.operand .memHl)
  | .orA => .alu .or (.operand (.reg .a))
  | .cpB => .alu .cp (.operand (.reg .b))
  | .cpC => .alu .cp (.operand (.reg .c))
  | .cpD => .alu .cp (.operand (.reg .d))
  | .cpE => .alu .cp (.operand (.reg .e))
  | .cpH => .alu .cp (.operand (.reg .h))
  | .cpL => .alu .cp (.operand (.reg .l))
  | .cpMemHl => .alu .cp (.operand .memHl)
  | .cpA => .alu .cp (.operand (.reg .a))
  | .retNz => .ret (some .nz)
  | .popBc => .pop .bc
  | .pushBc => .push .bc
  | .rst00 => .call none 0x00
  | .retZ => .ret (some .z)
  | .ret => .ret none
  | .rst08 => .call none 0x08
  | .retNc => .ret (some .nc)
  | .popDe => .pop .de
  | .pushDe => .push .de
  | .rst10 => .call none 0x10
  | .retC => .ret (some .c)
  | .reti => .reti
  | .rst18 => .call none 0x18
  | .popHl => .pop .hl
  | .ldMemCA => .storeReg .a .pageC
  | .pushHl => .push .hl
  | .rst20 => .call none 0x20
  | .jpHl => .jumpHl
  | .rst28 => .call none 0x28
  | .popAf => .pop .af
  | .ldAMemC => .loadFrom .a .pageC
  | .di => .di
  | .pushAf => .push .af
  | .rst30 => .call none 0x30
  | .ldSpHl => .loadSpHl
  | .ei => .ei
  | .rst38 => .call none 0x38
  | .rlcB => .rotateAt rotLeft (.reg .b)
  | .rlcC => .rotateAt rotLeft (.reg .c)
  | .rlcD => .rotateAt rotLeft (.reg .d)
  | .rlcE => .rotateAt rotLeft (.reg .e)
  | .rlcH => .rotateAt rotLeft (.reg .h)
  | .rlcL => .rotateAt rotLeft (.reg .l)
  | .rlcMemHl => .rotateAt rotLeft .memHl
  | .rlcA => .rotateAt rotLeft (.reg .a)
  | .rrcB => .rotateAt rotRight (.reg .b)
  | .rrcC => .rotateAt rotRight (.reg .c)
  | .rrcD => .rotateAt rotRight (.reg .d)
  | .rrcE => .rotateAt rotRight (.reg .e)
  | .rrcH => .rotateAt rotRight (.reg .h)
  | .rrcL => .rotateAt rotRight (.reg .l)
  | .rrcMemHl => .rotateAt rotRight .memHl
  | .rrcA => .rotateAt rotRight (.reg .a)
  | .rlB => .rotateAt rotLeftCarry (.reg .b)
  | .rlC => .rotateAt rotLeftCarry (.reg .c)
  | .rlD => .rotateAt rotLeftCarry (.reg .d)
  | .rlE => .rotateAt rotLeftCarry (.reg .e)
  | .rlH => .rotateAt rotLeftCarry (.reg .h)
  | .rlL => .rotateAt rotLeftCarry (.reg .l)
  | .rlMemHl => .rotateAt rotLeftCarry .memHl
  | .rlA => .rotateAt rotLeftCarry (.reg .a)
  | .rrB => .rotateAt rotRightCarry (.reg .b)
  | .rrC => .rotateAt rotRightCarry (.reg .c)
  | .rrD => .rotateAt rotRightCarry (.reg .d)
  | .rrE => .rotateAt rotRightCarry (.reg .e)
  | .rrH => .rotateAt rotRightCarry (.reg .h)
  | .rrL => .rotateAt rotRightCarry (.reg .l)
  | .rrMemHl => .rotateAt rotRightCarry .memHl
  | .rrA => .rotateAt rotRightCarry (.reg .a)
  | .slaB => .rotateAt shiftLeft (.reg .b)
  | .slaC => .rotateAt shiftLeft (.reg .c)
  | .slaD => .rotateAt shiftLeft (.reg .d)
  | .slaE => .rotateAt shiftLeft (.reg .e)
  | .slaH => .rotateAt shiftLeft (.reg .h)
  | .slaL => .rotateAt shiftLeft (.reg .l)
  | .slaMemHl => .rotateAt shiftLeft .memHl
  | .slaA => .rotateAt shiftLeft (.reg .a)
  | .sraB => .rotateAt shiftRightArith (.reg .b)
  | .sraC => .rotateAt shiftRightArith (.reg .c)
  | .sraD => .rotateAt shiftRightArith (.reg .d)
  | .sraE => .rotateAt shiftRightArith (.reg .e)
  | .sraH => .rotateAt shiftRightArith (.reg .h)
  | .sraL => .rotateAt shiftRightArith (.reg .l)
  | .sraMemHl => .rotateAt shiftRightArith .memHl
  | .sraA => .rotateAt shiftRightArith (.reg .a)
  | .swapB => .rotateAt swapNibbles (.reg .b)
  | .swapC => .rotateAt swapNibbles (.reg .c)
  | .swapD => .rotateAt swapNibbles (.reg .d)
  | .swapE => .rotateAt swapNibbles (.reg .e)
  | .swapH => .rotateAt swapNibbles (.reg .h)
  | .swapL => .rotateAt swapNibbles (.reg .l)
  | .swapMemHl => .rotateAt swapNibbles .memHl
  | .swapA => .rotateAt swapNibbles (.reg .a)
  | .srlB => .rotateAt shiftRight (.reg .b)
  | .srlC => .rotateAt shiftRight (.reg .c)
  | .srlD => .rotateAt shiftRight (.reg .d)
  | .srlE => .rotateAt shiftRight (.reg .e)
  | .srlH => .rotateAt shiftRight (.reg .h)
  | .srlL => .rotateAt shiftRight (.reg .l)
  | .srlMemHl => .rotateAt shiftRight .memHl
  | .srlA => .rotateAt shiftRight (.reg .a)
  | .bit0B => .bitTest 0 (.reg .b)
  | .bit0C => .bitTest 0 (.reg .c)
  | .bit0D => .bitTest 0 (.reg .d)
  | .bit0E => .bitTest 0 (.reg .e)
  | .bit0H => .bitTest 0 (.reg .h)
  | .bit0L => .bitTest 0 (.reg .l)
  | .bit0MemHl => .bitTest 0 .memHl
  | .bit0A => .bitTest 0 (.reg .a)
  | .bit1B => .bitTest 1 (.reg .b)
  | .bit1C => .bitTest 1 (.reg .c)
  | .bit1D => .bitTest 1 (.reg .d)
  | .bit1E => .bitTest 1 (.reg .e)
  | .bit1H => .bitTest 1 (.reg .h)
  | .bit1L => .bitTest 1 (.reg .l)
  | .bit1MemHl => .bitTest 1 .memHl
  | .bit1A => .bitTest 1 (.reg .a)
  | .bit2B => .bitTest 2 (.reg .b)
  | .bit2C => .bitTest 2 (.reg .c)
  | .bit2D => .bitTest 2 (.reg .d)
  | .bit2E => .bitTest 2 (.reg .e)
  | .bit2H => .bitTest 2 (.reg .h)
  | .bit2L => .bitTest 2 (.reg .l)
  | .bit2MemHl => .bitTest 2 .memHl
  | .bit2A => .bitTest 2 (.reg .a)
  | .bit3B => .bitTest 3 (.reg .b)
  | .bit3C => .bitTest 3 (.reg .c)
  | .bit3D => .bitTest 3 (.reg .d)
  | .bit3E => .bitTest 3 (.reg .e)
  | .bit3H => .bitTest 3 (.reg .h)
  | .bit3L => .bitTest 3 (.reg .l)
  | .bit3MemHl => .bitTest 3 .memHl
  | .bit3A => .bitTest 3 (.reg .a)
  | .bit4B => .bitTest 4 (.reg .b)
  | .bit4C => .bitTest 4 (.reg .c)
  | .bit4D => .bitTest 4 (.reg .d)
  | .bit4E => .bitTest 4 (.reg .e)
  | .bit4H => .bitTest 4 (.reg .h)
  | .bit4L => .bitTest 4 (.reg .l)
  | .bit4MemHl => .bitTest 4 .memHl
  | .bit4A => .bitTest 4 (.reg .a)
  | .bit5B => .bitTest 5 (.reg .b)
  | .bit5C => .bitTest 5 (.reg .c)
  | .bit5D => .bitTest 5 (.reg .d)
  | .bit5E => .bitTest 5 (.reg .e)
  | .bit5H => .bitTest 5 (.reg .h)
  | .bit5L => .bitTest 5 (.reg .l)
  | .bit5MemHl => .bitTest 5 .memHl
  | .bit5A => .bitTest 5 (.reg .a)
  | .bit6B => .bitTest 6 (.reg .b)
  | .bit6C => .bitTest 6 (.reg .c)
  | .bit6D => .bitTest 6 (.reg .d)
  | .bit6E => .bitTest 6 (.reg .e)
  | .bit6H => .bitTest 6 (.reg .h)
  | .bit6L => .bitTest 6 (.reg .l)
  | .bit6MemHl => .bitTest 6 .memHl
  | .bit6A => .bitTest 6 (.reg .a)
  | .bit7B => .bitTest 7 (.reg .b)
  | .bit7C => .bitTest 7 (.reg .c)
  | .bit7D => .bitTest 7 (.reg .d)
  | .bit7E => .bitTest 7 (.reg .e)
  | .bit7H => .bitTest 7 (.reg .h)
  | .bit7L => .bitTest 7 (.reg .l)
  | .bit7MemHl => .bitTest 7 .memHl
  | .bit7A => .bitTest 7 (.reg .a)
  | .res0B => .bitReset 0 (.reg .b)
  | .res0C => .bitReset 0 (.reg .c)
  | .res0D => .bitReset 0 (.reg .d)
  | .res0E => .bitReset 0 (.reg .e)
  | .res0H => .bitReset 0 (.reg .h)
  | .res0L => .bitReset 0 (.reg .l)
  | .res0MemHl => .bitReset 0 .memHl
  | .res0A => .bitReset 0 (.reg .a)
  | .res1B => .bitReset 1 (.reg .b)
  | .res1C => .bitReset 1 (.reg .c)
  | .res1D => .bitReset 1 (.reg .d)
  | .res1E => .bitReset 1 (.reg .e)
  | .res1H => .bitReset 1 (.reg .h)
  | .res1L => .bitReset 1 (.reg .l)
  | .res1MemHl => .bitReset 1 .memHl
  | .res1A => .bitReset 1 (.reg .a)
  | .res2B => .bitReset 2 (.reg .b)
  | .res2C => .bitReset 2 (.reg .c)
  | .res2D => .bitReset 2 (.reg .d)
  | .res2E => .bitReset 2 (.reg .e)
  | .res2H => .bitReset 2 (.reg .h)
  | .res2L => .bitReset 2 (.reg .l)
  | .res2MemHl => .bitReset 2 .memHl
  | .res2A => .bitReset 2 (.reg .a)
  | .res3B => .bitReset 3 (.reg .b)
  | .res3C => .bitReset 3 (.reg .c)
  | .res3D => .bitReset 3 (.reg .d)
  | .res3E => .bitReset 3 (.reg .e)
  | .res3H => .bitReset 3 (.reg .h)
  | .res3L => .bitReset 3 (.reg .l)
  | .res3MemHl => .bitReset 3 .memHl
  | .res3A => .bitReset 3 (.reg .a)
  | .res4B => .bitReset 4 (.reg .b)
  | .res4C => .bitReset 4 (.reg .c)
  | .res4D => .bitReset 4 (.reg .d)
  | .res4E => .bitReset 4 (.reg .e)
  | .res4H => .bitReset 4 (.reg .h)
  | .res4L => .bitReset 4 (.reg .l)
  | .res4MemHl => .bitReset 4 .memHl
  | .res4A => .bitReset 4 (.reg .a)
  | .res5B => .bitReset 5 (.reg .b)
  | .res5C => .bitReset 5 (.reg .c)
  | .res5D => .bitReset 5 (.reg .d)
  | .res5E => .bitReset 5 (.reg .e)
  | .res5H => .bitReset 5 (.reg .h)
  | .res5L => .bitReset 5 (.reg .l)
  | .res5MemHl => .bitReset 5 .memHl
  | .res5A => .bitReset 5 (.reg .a)
  | .res6B => .bitReset 6 (.reg .b)
  | .res6C => .bitReset 6 (.reg .c)
  | .res6D => .bitReset 6 (.reg .d)
  | .res6E => .bitReset 6 (.reg .e)
  | .res6H => .bitReset 6 (.reg .h)
  | .res6L => .bitReset 6 (.reg .l)
  | .res6MemHl => .bitReset 6 .memHl
  | .res6A => .bitReset 6 (.reg .a)
  | .res7B => .bitReset 7 (.reg .b)
  | .res7C => .bitReset 7 (.reg .c)
  | .res7D => .bitReset 7 (.reg .d)
  | .res7E => .bitReset 7 (.reg .e)
  | .res7H => .bitReset 7 (.reg .h)
  | .res7L => .bitReset 7 (.reg .l)
  | .res7MemHl => .bitReset 7 .memHl
  | .res7A => .bitReset 7 (.reg .a)
  | .set0B => .bitSet 0 (.reg .b)
  | .set0C => .bitSet 0 (.reg .c)
  | .set0D => .bitSet 0 (.reg .d)
  | .set0E => .bitSet 0 (.reg .e)
  | .set0H => .bitSet 0 (.reg .h)
  | .set0L => .bitSet 0 (.reg .l)
  | .set0MemHl => .bitSet 0 .memHl
  | .set0A => .bitSet 0 (.reg .a)
  | .set1B => .bitSet 1 (.reg .b)
  | .set1C => .bitSet 1 (.reg .c)
  | .set1D => .bitSet 1 (.reg .d)
  | .set1E => .bitSet 1 (.reg .e)
  | .set1H => .bitSet 1 (.reg .h)
  | .set1L => .bitSet 1 (.reg .l)
  | .set1MemHl => .bitSet 1 .memHl
  | .set1A => .bitSet 1 (.reg .a)
  | .set2B => .bitSet 2 (.reg .b)
  | .set2C => .bitSet 2 (.reg .c)
  | .set2D => .bitSet 2 (.reg .d)
  | .set2E => .bitSet 2 (.reg .e)
  | .set2H => .bitSet 2 (.reg .h)
  | .set2L => .bitSet 2 (.reg .l)
  | .set2MemHl => .bitSet 2 .memHl
  | .set2A => .bitSet 2 (.reg .a)
  | .set3B => .bitSet 3 (.reg .b)
  | .set3C => .bitSet 3 (.reg .c)
  | .set3D => .bitSet 3 (.reg .d)
  | .set3E => .bitSet 3 (.reg .e)
  | .set3H => .bitSet 3 (.reg .h)
  | .set3L => .bitSet 3 (.reg .l)
  | .set3MemHl => .bitSet 3 .memHl
  | .set3A => .bitSet 3 (.reg .a)
  | .set4B => .bitSet 4 (.reg .b)
  | .set4C => .bitSet 4 (.reg .c)
  | .set4D => .bitSet 4 (.reg .d)
  | .set4E => .bitSet 4 (.reg .e)
  | .set4H => .bitSet 4 (.reg .h)
  | .set4L => .bitSet 4 (.reg .l)
  | .set4MemHl => .bitSet 4 .memHl
  | .set4A => .bitSet 4 (.reg .a)
  | .set5B => .bitSet 5 (.reg .b)
  | .set5C => .bitSet 5 (.reg .c)
  | .set5D => .bitSet 5 (.reg .d)
  | .set5E => .bitSet 5 (.reg .e)
  | .set5H => .bitSet 5 (.reg .h)
  | .set5L => .bitSet 5 (.reg .l)
  | .set5MemHl => .bitSet 5 .memHl
  | .set5A => .bitSet 5 (.reg .a)
  | .set6B => .bitSet 6 (.reg .b)
  | .set6C => .bitSet 6 (.reg .c)
  | .set6D => .bitSet 6 (.reg .d)
  | .set6E => .bitSet 6 (.reg .e)
  | .set6H => .bitSet 6 (.reg .h)
  | .set6L => .bitSet 6 (.reg .l)
  | .set6MemHl => .bitSet 6 .memHl
  | .set6A => .bitSet 6 (.reg .a)
  | .set7B => .bitSet 7 (.reg .b)
  | .set7C => .bitSet 7 (.reg .c)
  | .set7D => .bitSet 7 (.reg .d)
  | .set7E => .bitSet 7 (.reg .e)
  | .set7H => .bitSet 7 (.reg .h)
  | .set7L => .bitSet 7 (.reg .l)
  | .set7MemHl => .bitSet 7 .memHl
  | .set7A => .bitSet 7 (.reg .a)

/-- Every meaning is what its form does. -/
theorem exec_eq_run (i : Instr) (s : State) : exec i s = (action i).run s := by
  cases i <;> rfl

end Sys2Proof.Laws
end

