-- ==== Sys2Proof/Laws/Bits.lean ====
section
/-! SUPPORT. Words, their halves and their values, and reading a word operand back. -/

namespace Sys2Proof.Machine

theorem word_toNat (hi lo : Byte) : (word hi lo).toNat = hi.toNat * 256 + lo.toNat := by
  show (BitVec.append hi lo).toNat = _
  have happ : BitVec.append hi lo = (hi ++ lo : BitVec (8 + 8)) := rfl
  rw [happ, BitVec.toNat_append, ← Nat.shiftLeft_add_eq_or_of_lt lo.isLt, Nat.shiftLeft_eq]

theorem hiByte_toNat (w : Word) : (hiByte w).toNat = w.toNat / 256 := by
  have := w.isLt
  simp only [hiByte, BitVec.extractLsb'_toNat, Nat.shiftRight_eq_div_pow]
  omega

theorem loByte_toNat (w : Word) : (loByte w).toNat = w.toNat % 256 := by
  simp only [loByte, BitVec.extractLsb'_toNat, Nat.shiftRight_zero]

@[simp] theorem hiByte_word (hi lo : Byte) : hiByte (word hi lo) = hi := by
  apply BitVec.eq_of_toNat_eq
  have := lo.isLt
  rw [hiByte_toNat, word_toNat]; omega

@[simp] theorem loByte_word (hi lo : Byte) : loByte (word hi lo) = lo := by
  apply BitVec.eq_of_toNat_eq
  have := lo.isLt
  rw [loByte_toNat, word_toNat]; omega

@[simp] theorem word_hiByte_loByte (w : Word) : word (hiByte w) (loByte w) = w := by
  apply BitVec.eq_of_toNat_eq
  rw [word_toNat, hiByte_toNat, loByte_toNat]; omega

end Sys2Proof.Machine

namespace Sys2Proof

open Sys2Proof.Machine

/-- A word operand written low byte first is read back whole (30_encoding.md R126). -/
theorem readWordOperand_ok (op : Byte) (build : Word → Instr) (w : Word) (rest : List Byte) :
    (Entry.imm16 build).read op (loByte w :: hiByte w :: rest) = .ok (build w, rest) := by
  simp [Entry.read]

/-- The two decoders agree: the one on a list, given enough bytes, and the one on three bytes. -/
theorem decode_three (op b1 b2 : Byte) : ∃ rest, decode [op, b1, b2] = .ok (decodeAt op b1 b2, rest) := by
  show ∃ rest, (mainTable op).read op [b1, b2] = .ok ((mainTable op).instr b1 b2, rest)
  cases mainTable op with
  | plain i => exact ⟨_, rfl⟩
  | imm8 build => exact ⟨_, rfl⟩
  | imm16 build => exact ⟨_, rfl⟩

end Sys2Proof
end

