-- ==== Sys2Proof/Laws/Memory.lean ====
section
/-! SUPPORT. Read after write, and that every write keeps the canonical form. -/

namespace Sys2Proof.Machine

@[simp] theorem cellsGet_insert_same (a : Nat) (v : Byte) (m : List Host.Cell) :
    cellsGet (cellsInsert a v m) a = some v := by
  induction m with
  | nil => simp [cellsInsert, cellsGet]
  | cons p rest ih =>
    obtain ⟨k, w⟩ := p
    unfold cellsInsert
    split
    · simp [cellsGet]
    · split
      · simp [cellsGet]
      · simp [cellsGet, *]

theorem cellsGet_insert_ne {a x : Nat} (h : x ≠ a) (v : Byte) (m : List Host.Cell) :
    cellsGet (cellsInsert a v m) x = cellsGet m x := by
  induction m with
  | nil => simp [cellsInsert, cellsGet, h.symm]
  | cons p rest ih =>
    obtain ⟨k, w⟩ := p
    unfold cellsInsert
    split
    · simp [cellsGet, h.symm]
    · split
      · next hk => subst hk; simp [cellsGet, h.symm]
      · simp only [cellsGet, ih]

@[simp] theorem cellsGet_erase_same (a : Nat) (m : List Host.Cell) : cellsGet (cellsErase a m) a = none := by
  induction m with
  | nil => rfl
  | cons p rest ih =>
    obtain ⟨k, w⟩ := p
    unfold cellsErase
    split
    · exact ih
    · simp [cellsGet, *]

theorem cellsGet_erase_ne {a x : Nat} (h : x ≠ a) (m : List Host.Cell) :
    cellsGet (cellsErase a m) x = cellsGet m x := by
  induction m with
  | nil => rfl
  | cons p rest ih =>
    obtain ⟨k, w⟩ := p
    unfold cellsErase
    split
    · next hk => subst hk; simp [cellsGet, h.symm, ih]
    · simp only [cellsGet, ih]

theorem cellsRising_mono {lo lo' : Nat} (h : lo' ≤ lo) {m : List Host.Cell} (hm : cellsRising lo m = true) :
    cellsRising lo' m = true := by
  cases m with
  | nil => rfl
  | cons p rest =>
    simp only [cellsRising, Bool.and_eq_true, decide_eq_true_eq] at hm ⊢
    exact ⟨⟨by omega, hm.1.2⟩, hm.2⟩

theorem cellsRising_insert {lo a : Nat} (hlo : lo ≤ a) (ha : a < 0x10000) (v : Byte) {m : List Host.Cell}
    (hm : cellsRising lo m = true) : cellsRising lo (cellsInsert a v m) = true := by
  induction m generalizing lo with
  | nil => simp [cellsInsert, cellsRising, hlo, ha]
  | cons p rest ih =>
    obtain ⟨k, w⟩ := p
    simp only [cellsRising, Bool.and_eq_true, decide_eq_true_eq] at hm
    unfold cellsInsert
    split
    · simp only [cellsRising, Bool.and_eq_true, decide_eq_true_eq]
      exact ⟨⟨hlo, ha⟩, ⟨by omega, hm.1.2⟩, hm.2⟩
    · split
      · next hk =>
        subst hk
        simp only [cellsRising, Bool.and_eq_true, decide_eq_true_eq]
        exact ⟨⟨hlo, ha⟩, hm.2⟩
      · simp only [cellsRising, Bool.and_eq_true, decide_eq_true_eq]
        exact ⟨hm.1, ih (by omega) hm.2⟩

theorem cellsRising_erase {lo : Nat} (a : Nat) {m : List Host.Cell} (hm : cellsRising lo m = true) :
    cellsRising lo (cellsErase a m) = true := by
  induction m generalizing lo with
  | nil => rfl
  | cons p rest ih =>
    obtain ⟨k, w⟩ := p
    simp only [cellsRising, Bool.and_eq_true, decide_eq_true_eq] at hm
    unfold cellsErase
    split
    · exact cellsRising_mono (by omega) (ih hm.2)
    · simp only [cellsRising, Bool.and_eq_true, decide_eq_true_eq]
      exact ⟨hm.1, ih hm.2⟩

theorem mem_cellsInsert {a : Nat} {v : Byte} {m : List Host.Cell} {p : Host.Cell}
    (h : p ∈ cellsInsert a v m) : p = (a, v) ∨ p ∈ m := by
  induction m with
  | nil => simpa [cellsInsert] using h
  | cons q rest ih =>
    obtain ⟨k, w⟩ := q
    unfold cellsInsert at h
    split at h
    · simpa using h
    · split at h
      · rcases List.mem_cons.1 h with rfl | h
        · exact .inl rfl
        · exact .inr (List.mem_cons_of_mem _ h)
      · rcases List.mem_cons.1 h with rfl | h
        · exact .inr (List.mem_cons_self ..)
        · exact (ih h).imp_right (List.mem_cons_of_mem _)

theorem mem_cellsErase {a : Nat} {m : List Host.Cell} {p : Host.Cell} (h : p ∈ cellsErase a m) : p ∈ m := by
  induction m with
  | nil => exact h
  | cons q rest ih =>
    obtain ⟨k, w⟩ := q
    unfold cellsErase at h
    split at h
    · exact List.mem_cons_of_mem _ (ih h)
    · rcases List.mem_cons.1 h with rfl | h
      · exact List.mem_cons_self ..
      · exact List.mem_cons_of_mem _ (ih h)

@[simp] theorem Memory.read_write_same (m : Memory) (a : Nat) (v : Byte) : (m.write a v).read a = v := by
  by_cases h : powerOnKnown a = some v
  · simp [Memory.read, Memory.write, powerOn, h]
  · simp [Memory.read, Memory.write, h]

theorem Memory.read_write_ne {a x : Nat} (h : x ≠ a) (m : Memory) (v : Byte) :
    (m.write a v).read x = m.read x := by
  by_cases hp : powerOnKnown a = some v
  · simp [Memory.read, Memory.write, hp, cellsGet_erase_ne h]
  · simp [Memory.read, Memory.write, hp, cellsGet_insert_ne h]

/-- Every array store keeps the canonical form. -/
theorem Memory.wf_write {a : Nat} (ha : a < 0x10000) (v : Byte) {m : Memory} (hm : m.wf = true) :
    (m.write a v).wf = true := by
  unfold Memory.wf at hm ⊢
  simp only [Bool.and_eq_true, List.all_eq_true, decide_eq_true_eq] at hm ⊢
  unfold Memory.write
  split
  · exact ⟨cellsRising_erase a hm.1, fun p hp => hm.2 p (mem_cellsErase hp)⟩
  · next h =>
    refine ⟨cellsRising_insert (Nat.zero_le _) ha v hm.1, fun p hp => ?_⟩
    rcases mem_cellsInsert hp with rfl | hp
    · exact h
    · exact hm.2 p hp

end Sys2Proof.Machine
end

