-- ==== Sys2Proof/Laws/Bus.lean ====
section
/-! SUPPORT. The bus: what a read sees of each kind of write, what a DMA transfer leaves, what every write keeps. -/

namespace Sys2Proof.Machine

namespace State

@[simp] theorem cell_storeCell_same (s : State) (a : Word) (v : Byte) : (s.storeCell a v).cell a = v := by
  simp [State.cell]

theorem cell_storeCell_ne (s : State) {a x : Word} (h : x ≠ a) (v : Byte) :
    (s.storeCell a v).cell x = s.cell x := by
  simp only [State.cell, storeCell_mem]
  exact Memory.read_write_ne (fun e => h (BitVec.eq_of_toNat_eq e)) _ _

/-- A bus read looks at the array and the cartridge only. -/
theorem readByte_congr {s t : State} (hm : s.mem = t.mem) (hc : s.cart = t.cart) (x : Word) :
    s.readByte x = t.readByte x := by
  simp only [State.readByte, State.readRomBank, State.cell, hm, hc]

theorem readByte_of_delegated (s : State) {x : Word} (h : delegated x = true) : s.readByte x = s.readRomBank x := by
  simp [State.readByte, h]

theorem readByte_of_not_delegated (s : State) {x : Word} (h : delegated x = false) : s.readByte x = s.cell x := by
  simp [State.readByte, h]

theorem readByte_storeCell (s : State) (a x : Word) (v : Byte) :
    (s.storeCell a v).readByte x = if x = a ∧ delegated a = false then v else s.readByte x := by
  by_cases hx : x = a
  · subst hx
    cases hd : delegated x
    · simp [State.readByte, hd]
    · rw [readByte_of_delegated _ hd, readByte_of_delegated _ hd]; simp [State.readRomBank]
  · simp only [hx, false_and, if_false]
    cases hd : delegated x
    · simp [State.readByte, hd, cell_storeCell_ne s hx]
    · rw [readByte_of_delegated _ hd, readByte_of_delegated _ hd]; simp [State.readRomBank]

/-- A banking write can change what delegated addresses answer and nothing else. -/
theorem readByte_bankWrite (s : State) (a : Word) (v : Byte) {x : Word} (h : delegated x = false) :
    (s.bankWrite a v).readByte x = s.readByte x := by
  rw [readByte_of_not_delegated _ h, readByte_of_not_delegated _ h]; rfl

/-- Row 8: with `EXTRAM_WRITE_DELEGATED` off, the plain store is a store into the array. -/
theorem writePlain_eq_storeCell (s : State) (a : Word) (v : Byte) : s.writePlain a v = s.storeCell a v := rfl

/-- The timer control write stores the byte; the notice is an output. -/
theorem readByte_writeTimerControl (s : State) (v : Byte) (x : Word) :
    (s.writeTimerControl v).readByte x = (s.storeCell 0xFF07 v).readByte x := by
  unfold State.writeTimerControl
  dsimp only
  split
  · rfl
  · exact readByte_congr rfl rfl x

/-- A write of the rows without recursion is a plain store wherever it is no special row. -/
theorem writeInner_plain (s : State) {a : Word} (v : Byte) (h : 0x8000 ≤ a.toNat)
    (h3 : a.toNat < 0xFEA0 ∨ 0xFEFF ≤ a.toNat) (h4 : a ≠ 0xFF04) (h5 : a ≠ 0xFF44) (h7 : a ≠ 0xFF07) :
    s.writeInner a v = s.storeCell a v := by
  unfold State.writeInner
  rw [if_neg (by omega), if_neg (by omega), if_neg h4, if_neg h5, if_neg h7, writePlain_eq_storeCell]

/-- The write is a plain store at every address no special row of R70 names. -/
theorem writeByte_plain (s : State) {a : Word} (v : Byte) (h : 0x8000 ≤ a.toNat)
    (h2 : a.toNat < 0xE000 ∨ 0xFE00 ≤ a.toNat) (h3 : a.toNat < 0xFEA0 ∨ 0xFEFF ≤ a.toNat)
    (h4 : a ≠ 0xFF04) (h5 : a ≠ 0xFF44) (h6 : a ≠ 0xFF46) (h7 : a ≠ 0xFF07) :
    s.writeByte a v = s.storeCell a v := by
  unfold State.writeByte
  rw [if_neg (by omega), if_neg (by omega), if_neg (by omega), if_neg h4, if_neg h5, if_neg h6, if_neg h7,
    writePlain_eq_storeCell]

theorem echo_mirror_toNat {a : Word} (h : 0xE000 ≤ a.toNat ∧ a.toNat < 0xFE00) :
    (a - 0x2000).toNat = a.toNat - 0x2000 := by
  have ha : (0x2000 : Word).toNat = 0x2000 := rfl
  rw [BitVec.toNat_sub, ha]
  omega

/-- Row 2 whole: both copies are stored (R72). -/
theorem writeByte_echo (s : State) {a : Word} (v : Byte) (h : 0xE000 ≤ a.toNat ∧ a.toNat < 0xFE00) :
    s.writeByte a v = (s.storeCell a v).storeCell (a - 0x2000) v := by
  have hm := echo_mirror_toNat h
  unfold State.writeByte
  rw [if_neg (by omega), if_pos h]
  apply writeInner_plain
  · omega
  · omega
  all_goals
    intro e
    have := congrArg BitVec.toNat e
    rw [hm] at this
    simp at this
    omega

theorem dmaDest_toNat {n : Nat} (h : n < 0xA0) : (0xFE00 + BitVec.ofNat 16 n : Word).toNat = 0xFE00 + n := by
  have h0 : (0xFE00 : Word).toNat = 0xFE00 := rfl
  rw [BitVec.toNat_add, BitVec.toNat_ofNat, h0]
  omega

/-- Every write of a DMA transfer is a plain store into the OAM block (R86). -/
theorem dmaCopy_succ (base : Word) {n : Nat} (h : n < 0xA0) (s : State) :
    dmaCopy base (n + 1) s = (dmaCopy base n s).storeCell (0xFE00 + BitVec.ofNat 16 n)
      ((dmaCopy base n s).readByte (base + BitVec.ofNat 16 n)) := by
  have hd := dmaDest_toNat h
  conv_lhs => unfold State.dmaCopy
  dsimp only
  apply writeInner_plain
  · omega
  · omega
  all_goals
    intro e
    have := congrArg BitVec.toNat e
    rw [hd] at this
    simp at this
    omega

/-- A DMA transfer does not touch the cartridge or the notices. -/
theorem dmaCopy_rest (base : Word) {n : Nat} (h : n ≤ 0xA0) (s : State) :
    (dmaCopy base n s).cart = s.cart ∧ (dmaCopy base n s).timerNotices = s.timerNotices := by
  induction n with
  | zero => exact ⟨rfl, rfl⟩
  | succ n ih =>
    rw [dmaCopy_succ base (by omega)]
    exact ih (by omega)

/-- Outside the block already copied, a DMA transfer leaves every read as it was. -/
theorem readByte_dmaCopy_outside (base : Word) {n : Nat} (h : n ≤ 0xA0) (s : State) {x : Word}
    (hx : x.toNat < 0xFE00 ∨ 0xFE00 + n ≤ x.toNat) : (dmaCopy base n s).readByte x = s.readByte x := by
  induction n with
  | zero => rfl
  | succ n ih =>
    rw [dmaCopy_succ base (by omega), readByte_storeCell, if_neg, ih (by omega) (by omega)]
    rintro ⟨rfl, -⟩
    rw [dmaDest_toNat (by omega)] at hx
    omega

theorem wf_storeCell {s : State} (h : s.mem.wf = true) (a : Word) (v : Byte) : (s.storeCell a v).mem.wf = true :=
  Memory.wf_write a.isLt v h

theorem wf_writePlain {s : State} (h : s.mem.wf = true) (a : Word) (v : Byte) : (s.writePlain a v).mem.wf = true :=
  wf_storeCell h a v

theorem wf_writeTimerControl {s : State} (h : s.mem.wf = true) (v : Byte) :
    (s.writeTimerControl v).mem.wf = true := by
  unfold State.writeTimerControl
  dsimp only
  split
  · exact wf_storeCell h _ _
  · exact wf_storeCell h _ _

theorem wf_writeInner {s : State} (h : s.mem.wf = true) (a : Word) (v : Byte) : (s.writeInner a v).mem.wf = true := by
  unfold State.writeInner
  split
  · exact h
  split
  · exact h
  split
  · exact wf_storeCell h _ _
  split
  · exact wf_storeCell h _ _
  split
  · exact wf_writeTimerControl h v
  · exact wf_writePlain h a v

theorem wf_dmaCopy (base : Word) (n : Nat) {s : State} (h : s.mem.wf = true) : (dmaCopy base n s).mem.wf = true := by
  induction n with
  | zero => exact h
  | succ n ih =>
    unfold State.dmaCopy
    exact wf_writeInner ih _ _

/-- Every bus write keeps the array canonical. -/
theorem wf_writeByte {s : State} (h : s.mem.wf = true) (a : Word) (v : Byte) : (s.writeByte a v).mem.wf = true := by
  unfold State.writeByte
  split
  · exact h
  split
  · exact wf_writeInner (wf_storeCell h _ _) _ _
  split
  · exact h
  split
  · exact wf_storeCell h _ _
  split
  · exact wf_storeCell h _ _
  split
  · exact wf_dmaCopy _ _ h
  split
  · exact wf_writeTimerControl h v
  · exact wf_writePlain h a v

/-- No bus write touches the cartridge's fixed cells. -/
theorem fixed_writeByte (s : State) (a : Word) (v : Byte) : (s.writeByte a v).cart.fixed = s.cart.fixed := by
  unfold State.writeByte
  split
  · rfl
  split
  · next h =>
    have := writeByte_echo s v h
    unfold State.writeByte at this
    rw [if_neg (by omega), if_pos h] at this
    rw [this]; rfl
  split
  · rfl
  split
  · rfl
  split
  · rfl
  split
  · exact congrArg Cart.fixed (dmaCopy_rest (word v 0) (Nat.le_refl 0xA0) s).1
  split
  · simp only [State.writeTimerControl]; split <;> rfl
  · rfl

/-- Two states in which the bus finds the same: the array, the cartridge, the notices. -/
def SameBus (s t : State) : Prop := s.mem = t.mem ∧ s.cart = t.cart ∧ s.timerNotices = t.timerNotices

theorem SameBus.readByte {s t : State} (h : SameBus s t) (x : Word) : s.readByte x = t.readByte x :=
  readByte_congr h.1 h.2.1 x

theorem SameBus.storeCell {s t : State} (h : SameBus s t) (a : Word) (v : Byte) :
    SameBus (s.storeCell a v) (t.storeCell a v) :=
  ⟨congrArg (fun m => Memory.write m a.toNat v) h.1, h.2⟩

theorem SameBus.bankWrite {s t : State} (h : SameBus s t) (a : Word) (v : Byte) :
    SameBus (s.bankWrite a v) (t.bankWrite a v) := by
  refine ⟨h.1, ?_, h.2.2⟩
  simp only [State.bankWrite, h.2.1]

theorem SameBus.writeTimerControl {s t : State} (h : SameBus s t) (v : Byte) :
    SameBus (s.writeTimerControl v) (t.writeTimerControl v) := by
  have hc : ∀ a, s.cell a = t.cell a := fun a => congrArg (fun m => Memory.read m a.toNat) h.1
  have hs := h.storeCell 0xFF07 v
  unfold State.writeTimerControl
  dsimp only
  simp only [cell_storeCell_same, hc]
  split
  · exact hs
  · exact ⟨hs.1, hs.2.1, congrArg (v :: ·) hs.2.2⟩

theorem SameBus.writeInner {s t : State} (h : SameBus s t) (a : Word) (v : Byte) :
    SameBus (s.writeInner a v) (t.writeInner a v) := by
  unfold State.writeInner
  split
  · exact h.bankWrite a v
  split
  · exact h
  split
  · exact h.storeCell _ _
  split
  · exact h.storeCell _ _
  split
  · exact h.writeTimerControl v
  · exact h.storeCell a v

theorem SameBus.dmaCopy {s t : State} (h : SameBus s t) (base : Word) (n : Nat) :
    SameBus (dmaCopy base n s) (dmaCopy base n t) := by
  induction n with
  | zero => exact h
  | succ n ih =>
    unfold State.dmaCopy
    dsimp only
    rw [ih.readByte]
    exact ih.writeInner _ _

/-- What a bus write does on the bus depends on nothing else of the state. -/
theorem SameBus.writeByte {s t : State} (h : SameBus s t) (a : Word) (v : Byte) :
    SameBus (s.writeByte a v) (t.writeByte a v) := by
  unfold State.writeByte
  split
  · exact h.bankWrite a v
  split
  · exact (h.storeCell a v).writeInner _ _
  split
  · exact h
  split
  · exact h.storeCell _ _
  split
  · exact h.storeCell _ _
  split
  · exact h.dmaCopy _ _
  split
  · exact h.writeTimerControl v
  · exact h.storeCell a v

/-- A bus write after SP is set is SP set after the bus write. -/
theorem writeByte_setSp (s : State) (k a : Word) (v : Byte) :
    ({ s with sp := k } : State).writeByte a v = { s.writeByte a v with sp := k } := by
  have h : SameBus ({ s with sp := k } : State) s := ⟨rfl, rfl, rfl⟩
  have h' := h.writeByte a v
  rw [State.writeByte_eq, State.writeByte_eq s]
  rw [h'.1, h'.2.1, h'.2.2]

/-- All that `StackPush` does (R82): two bus writes, high byte first, and SP down by 2. -/
theorem stackPush_eq (s : State) (w : Word) :
    s.stackPush w = { (s.writeByte (s.sp - 1) (hiByte w)).writeByte (s.sp - 2) (loByte w) with sp := s.sp - 2 } := by
  have h2 : s.sp - 1 - 1 = s.sp - 2 := by rw [BitVec.sub_sub]; rfl
  simp only [State.stackPush, State.pushByte, writeByte_setSp, h2]

end State

end Sys2Proof.Machine
end

