-- ==== Sys2Proof/Laws/Extended.lean ====
section
/-! SUPPORT. The extended table as one operation: each of its 256 instructions runs `runExtended` on its second byte. -/

namespace Sys2Proof.Laws

open Sys2Proof.Machine

/-- The two bytes of every extended instruction (30_encoding.md R130). -/
theorem encode_cbTable (op2 : Byte) : encode (cbTable op2) = [0xCB, op2] := by
  revert op2
  decide

/-- What every extended instruction does, by its second byte. -/
theorem exec_cbTable (op2 : Byte) (s : State) : exec (cbTable op2) s = .next (runExtended op2 s) := by
  have h : ∀ n < 256, exec (cbTable (BitVec.ofNat 8 n)) s = .next (runExtended (BitVec.ofNat 8 n) s) := by
    intro n hn
    interval_cases n <;> rfl
  have := h op2.toNat op2.isLt
  rwa [BitVec.ofNat_toNat, BitVec.setWidth_eq] at this

/-- What every extended instruction costs. -/
theorem dispatchCost_cbTable (op2 : Byte) (s : State) : dispatchCost (cbTable op2) s = 4 + (cbCost op2 - 4) := by
  have hk : extraCost 0xCB op2 s = cbCost op2 - 4 := if_pos rfl
  have hm : baseCost 0xCB = 4 := rfl
  rw [dispatchCost, Instr.opcode, encode_cbTable]
  exact congr (congrArg _ hm) hk

end Sys2Proof.Laws
end

