-- ==== Sys2Proof/Laws/Flags.lean ====
section
/-! SUPPORT. The flag computations in plain arithmetic: low nibbles as remainders, narrowed sums and differences as
machine arithmetic, and what each shared operation over the flags does to the whole state; the cost of a call. -/

namespace Sys2Proof.Machine

/-- The cost of a call, from its two parts. -/
theorem dispatchCost_eq {i : Instr} {s : State} {m k : Nat} (hm : baseCost i.opcode = m)
    (hk : extraCost i.opcode ((encode i).getD 1 0) s = k) : dispatchCost i s = m + k := by
  rw [dispatchCost, hm, hk]

theorem lowNibble_eq (v : Byte) : lowNibble v = v.toNat % 16 := by
  rw [lowNibble, BitVec.toNat_and]
  exact Nat.and_two_pow_sub_one_eq_mod v.toNat 4

theorem low12_eq (w : Word) : (w &&& 0x0FFF).toNat = w.toNat % 4096 := by
  rw [BitVec.toNat_and]
  exact Nat.and_two_pow_sub_one_eq_mod w.toNat 12

theorem low8_eq (w : Word) : (w &&& 0x00FF).toNat = w.toNat % 256 := by
  rw [BitVec.toNat_and]
  exact Nat.and_two_pow_sub_one_eq_mod w.toNat 8

theorem low4_eq (w : Word) : (w &&& 0x000F).toNat = w.toNat % 16 := by
  rw [BitVec.toNat_and]
  exact Nat.and_two_pow_sub_one_eq_mod w.toNat 4

theorem ofNat_beq_zero (n : Nat) : (BitVec.ofNat 8 n == 0) = decide (n % 256 = 0) := by
  rw [Bool.eq_iff_iff]
  simp [BitVec.toNat_eq]

theorem ofInt_beq_zero (n : Int) : (BitVec.ofInt 8 n == 0) = decide (n % 256 = 0) := by
  rw [Bool.eq_iff_iff]
  simp only [beq_iff_eq, decide_eq_true_eq, BitVec.toNat_eq, BitVec.toNat_ofInt]
  show (n % 256).toNat = 0 ↔ _
  omega

theorem ofNat_sum (x y : Byte) (k : Nat) : BitVec.ofNat 8 (x.toNat + y.toNat + k) = x + y + BitVec.ofNat 8 k := by
  apply BitVec.eq_of_toNat_eq
  simp only [BitVec.toNat_ofNat, BitVec.toNat_add]
  omega

theorem ofInt_difference (x y : Byte) (k : Nat) :
    BitVec.ofInt 8 ((x.toNat : Int) - y.toNat - k) = x - y - BitVec.ofNat 8 k := by
  apply BitVec.eq_of_toNat_eq
  simp only [BitVec.toNat_ofInt, BitVec.toNat_ofNat, BitVec.toNat_sub]
  have := x.isLt; have := y.isLt
  omega

theorem ofNat_sum16 (x y : Word) : BitVec.ofNat 16 (x.toNat + y.toNat) = x + y := by
  apply BitVec.eq_of_toNat_eq
  simp only [BitVec.toNat_ofNat, BitVec.toNat_add]

namespace State

/-- All that ADD and ADC do (R271, R273). -/
theorem addToA_eq (s : State) (v : Byte) (k : Nat) : s.addToA v k = { s with
    a := s.a + v + BitVec.ofNat 8 k, zero := decide ((s.a.toNat + v.toNat + k) % 256 = 0), sub := false
    halfCarry := decide (s.a.toNat % 16 + v.toNat % 16 + k > 15)
    carry := decide (s.a.toNat + v.toNat + k > 255) } := by
  simp only [State.addToA, State.setFlags, ofNat_sum, ← ofNat_beq_zero, lowNibble_eq]

/-- All that SUB and SBC do (R275, R277). -/
theorem subFromA_eq (s : State) (v : Byte) (k : Nat) : s.subFromA v k = { s with
    a := s.a - v - BitVec.ofNat 8 k, zero := decide (((s.a.toNat : Int) - v.toNat - k) % 256 = 0), sub := true
    halfCarry := decide (s.a.toNat % 16 < v.toNat % 16 + k)
    carry := decide (s.a.toNat < v.toNat + k) } := by
  have h : ((s.a.toNat : Int) - v.toNat - k < 0) ↔ s.a.toNat < v.toNat + k := by omega
  simp only [State.subFromA, State.setFlags, ofInt_difference, ← ofInt_beq_zero, lowNibble_eq, h]

/-- All that Compare does (R173). -/
theorem compare_eq (s : State) (x y : Byte) : s.compare x y = { s with
    zero := x == y, sub := true, halfCarry := decide (y.toNat % 16 < x.toNat % 16)
    carry := decide (y.toNat < x.toNat) } := by
  simp only [State.compare, State.setFlags, lowNibble_eq, gt_iff_lt]

/-- All that `ADD HL,rr` does (R321). -/
theorem addToHl_eq (s : State) (w : Word) : s.addToHl w = { s with
    hl := s.hl + w, sub := false, halfCarry := decide (s.hl.toNat % 4096 + w.toNat % 4096 > 4095)
    carry := decide (s.hl.toNat + w.toNat > 65535) } := by
  simp only [State.addToHl, State.setFlags, ofNat_sum16, low12_eq]

/-- The flags of SP plus a displacement (R244, R324). -/
theorem spFlags_eq (s : State) (v : Byte) : s.spFlags v = { s with
    zero := false, sub := false, halfCarry := decide (s.sp.toNat % 16 + v.toNat % 16 > 15)
    carry := decide (s.sp.toNat % 256 + v.toNat > 255) } := by
  simp only [State.spFlags, State.setFlags, low4_eq, low8_eq, lowNibble_eq]

end State

end Sys2Proof.Machine
end

