-- ==== Sys2Proof/Tests/Slice0.lean ====
section
/-! SUPPORT. Tests. Expected results come from the spec: the field map of 30_encoding.md R129 and R130 for decoding, the
vectors of 95_test_vectors.md (the theorem's name is the vector's) and the rules named elsewhere. The witnesses at
the end meet the hypotheses of the statements in Obligations.lean. -/

namespace Sys2Proof.Tests

open Sys2Proof.Machine Sys2Proof.Statements

/-! ### Well-formedness: the one check refuses a byte that is assigned -/

theorem test_wf_refuses_assigned_byte : (Instr.unassigned 0x00).wf = false := by decide
theorem test_wf_refuses_the_lead_byte : (Instr.unassigned 0xCB).wf = false := by decide
theorem test_wf_takes_unassigned_byte : (Instr.unassigned 0xFD).wf = true := by decide

/-! ### Decoding -/

/-- The bytes are exactly one instruction, this one. -/
def isExactly (bytes : List Byte) (i : Instr) : Bool :=
  match decode bytes with
  | .ok (j, []) => decide (j = i)
  | _ => false

/-- A block of the map by fields: row y, column z, after the bytes `lead`. -/
def block (lead : List Byte) (x : Nat) (rows : List (List Instr)) : Bool :=
  rows.zipIdx.all fun r => r.1.zipIdx.all fun c => isExactly (lead ++ [opByte x r.2 c.2]) c.1

/-- x = 1: `LD r[y],r[z]`, HALT at 6, 6. -/
theorem test_decode_loads : block [] 1
  [[.ldBB, .ldBC, .ldBD, .ldBE, .ldBH, .ldBL, .ldBMemHl, .ldBA],
   [.ldCB, .ldCC, .ldCD, .ldCE, .ldCH, .ldCL, .ldCMemHl, .ldCA],
   [.ldDB, .ldDC, .ldDD, .ldDE, .ldDH, .ldDL, .ldDMemHl, .ldDA],
   [.ldEB, .ldEC, .ldED, .ldEE, .ldEH, .ldEL, .ldEMemHl, .ldEA],
   [.ldHB, .ldHC, .ldHD, .ldHE, .ldHH, .ldHL, .ldHMemHl, .ldHA],
   [.ldLB, .ldLC, .ldLD, .ldLE, .ldLH, .ldLL, .ldLMemHl, .ldLA],
   [.ldMemHlB, .ldMemHlC, .ldMemHlD, .ldMemHlE, .ldMemHlH, .ldMemHlL, .halt, .ldMemHlA],
   [.ldAB, .ldAC, .ldAD, .ldAE, .ldAH, .ldAL, .ldAMemHl, .ldAA]] = true := by decide

/-- x = 2: `alu[y] A,r[z]`. -/
theorem test_decode_alu : block [] 2
  [[.addAB, .addAC, .addAD, .addAE, .addAH, .addAL, .addAMemHl, .addAA],
   [.adcAB, .adcAC, .adcAD, .adcAE, .adcAH, .adcAL, .adcAMemHl, .adcAA],
   [.subB, .subC, .subD, .subE, .subH, .subL, .subMemHl, .subA],
   [.sbcAB, .sbcAC, .sbcAD, .sbcAE, .sbcAH, .sbcAL, .sbcAMemHl, .sbcAA],
   [.andB, .andC, .andD, .andE, .andH, .andL, .andMemHl, .andA],
   [.xorB, .xorC, .xorD, .xorE, .xorH, .xorL, .xorMemHl, .xorA],
   [.orB, .orC, .orD, .orE, .orH, .orL, .orMemHl, .orA],
   [.cpB, .cpC, .cpD, .cpE, .cpH, .cpL, .cpMemHl, .cpA]] = true := by decide

/-- After 0xCB, x = 0: `rot[y] r[z]`. -/
theorem test_decode_rotates : block [0b11001011] 0
  [[.rlcB, .rlcC, .rlcD, .rlcE, .rlcH, .rlcL, .rlcMemHl, .rlcA],
   [.rrcB, .rrcC, .rrcD, .rrcE, .rrcH, .rrcL, .rrcMemHl, .rrcA],
   [.rlB, .rlC, .rlD, .rlE, .rlH, .rlL, .rlMemHl, .rlA],
   [.rrB, .rrC, .rrD, .rrE, .rrH, .rrL, .rrMemHl, .rrA],
   [.slaB, .slaC, .slaD, .slaE, .slaH, .slaL, .slaMemHl, .slaA],
   [.sraB, .sraC, .sraD, .sraE, .sraH, .sraL, .sraMemHl, .sraA],
   [.swapB, .swapC, .swapD, .swapE, .swapH, .swapL, .swapMemHl, .swapA],
   [.srlB, .srlC, .srlD, .srlE, .srlH, .srlL, .srlMemHl, .srlA]] = true := by decide

/-- After 0xCB, x = 1: `BIT y,r[z]`. -/
theorem test_decode_bit : block [0b11001011] 1
  [[.bit0B, .bit0C, .bit0D, .bit0E, .bit0H, .bit0L, .bit0MemHl, .bit0A],
   [.bit1B, .bit1C, .bit1D, .bit1E, .bit1H, .bit1L, .bit1MemHl, .bit1A],
   [.bit2B, .bit2C, .bit2D, .bit2E, .bit2H, .bit2L, .bit2MemHl, .bit2A],
   [.bit3B, .bit3C, .bit3D, .bit3E, .bit3H, .bit3L, .bit3MemHl, .bit3A],
   [.bit4B, .bit4C, .bit4D, .bit4E, .bit4H, .bit4L, .bit4MemHl, .bit4A],
   [.bit5B, .bit5C, .bit5D, .bit5E, .bit5H, .bit5L, .bit5MemHl, .bit5A],
   [.bit6B, .bit6C, .bit6D, .bit6E, .bit6H, .bit6L, .bit6MemHl, .bit6A],
   [.bit7B, .bit7C, .bit7D, .bit7E, .bit7H, .bit7L, .bit7MemHl, .bit7A]] = true := by decide

/-- After 0xCB, x = 2: `RES y,r[z]`. -/
theorem test_decode_res : block [0b11001011] 2
  [[.res0B, .res0C, .res0D, .res0E, .res0H, .res0L, .res0MemHl, .res0A],
   [.res1B, .res1C, .res1D, .res1E, .res1H, .res1L, .res1MemHl, .res1A],
   [.res2B, .res2C, .res2D, .res2E, .res2H, .res2L, .res2MemHl, .res2A],
   [.res3B, .res3C, .res3D, .res3E, .res3H, .res3L, .res3MemHl, .res3A],
   [.res4B, .res4C, .res4D, .res4E, .res4H, .res4L, .res4MemHl, .res4A],
   [.res5B, .res5C, .res5D, .res5E, .res5H, .res5L, .res5MemHl, .res5A],
   [.res6B, .res6C, .res6D, .res6E, .res6H, .res6L, .res6MemHl, .res6A],
   [.res7B, .res7C, .res7D, .res7E, .res7H, .res7L, .res7MemHl, .res7A]] = true := by decide

/-- After 0xCB, x = 3: `SET y,r[z]`. -/
theorem test_decode_set : block [0b11001011] 3
  [[.set0B, .set0C, .set0D, .set0E, .set0H, .set0L, .set0MemHl, .set0A],
   [.set1B, .set1C, .set1D, .set1E, .set1H, .set1L, .set1MemHl, .set1A],
   [.set2B, .set2C, .set2D, .set2E, .set2H, .set2L, .set2MemHl, .set2A],
   [.set3B, .set3C, .set3D, .set3E, .set3H, .set3L, .set3MemHl, .set3A],
   [.set4B, .set4C, .set4D, .set4E, .set4H, .set4L, .set4MemHl, .set4A],
   [.set5B, .set5C, .set5D, .set5E, .set5H, .set5L, .set5MemHl, .set5A],
   [.set6B, .set6C, .set6D, .set6E, .set6H, .set6L, .set6MemHl, .set6A],
   [.set7B, .set7C, .set7D, .set7E, .set7H, .set7L, .set7MemHl, .set7A]] = true := by decide

/-- x = 0, z = 0. -/
theorem test_decode_x0_z0 : ([
  ([0b00000000], .nop),
  ([0b00001000, 0x34, 0x12], .ldMemA16Sp 0x1234),
  ([0b00010000, 0x00], .stop 0x00),
  ([0b00011000, 0xFE], .jrE8 0xFE),
  ([0b00100000, 0x80], .jrNzE8 0x80),
  ([0b00101000, 0x80], .jrZE8 0x80),
  ([0b00110000, 0x80], .jrNcE8 0x80),
  ([0b00111000, 0x80], .jrCE8 0x80)] : List (List Byte × Instr)).all (fun p => isExactly p.1 p.2) = true := by
  decide

/-- x = 0, z = 1. -/
theorem test_decode_x0_z1 : ([
  ([0b00000001, 0x34, 0x12], .ldBcD16 0x1234),
  ([0b00010001, 0x34, 0x12], .ldDeD16 0x1234),
  ([0b00100001, 0x34, 0x12], .ldHlD16 0x1234),
  ([0b00110001, 0x34, 0x12], .ldSpD16 0x1234),
  ([0b00001001], .addHlBc),
  ([0b00011001], .addHlDe),
  ([0b00101001], .addHlHl),
  ([0b00111001], .addHlSp)] : List (List Byte × Instr)).all (fun p => isExactly p.1 p.2) = true := by
  decide

/-- x = 0, z = 2 and 3. -/
theorem test_decode_x0_z2_z3 : ([
  ([0b00000010], .ldMemBcA),
  ([0b00010010], .ldMemDeA),
  ([0b00100010], .ldMemHliA),
  ([0b00110010], .ldMemHldA),
  ([0b00001010], .ldAMemBc),
  ([0b00011010], .ldAMemDe),
  ([0b00101010], .ldAMemHli),
  ([0b00111010], .ldAMemHld),
  ([0b00000011], .incBc),
  ([0b00010011], .incDe),
  ([0b00100011], .incHl),
  ([0b00110011], .incSp),
  ([0b00001011], .decBc),
  ([0b00011011], .decDe),
  ([0b00101011], .decHl),
  ([0b00111011], .decSp)] : List (List Byte × Instr)).all (fun p => isExactly p.1 p.2) = true := by
  decide

/-- x = 0, z = 4, 5, 6. -/
theorem test_decode_x0_z4_to_z6 : ([
  ([0b00000100], .incB),
  ([0b00001100], .incC),
  ([0b00010100], .incD),
  ([0b00011100], .incE),
  ([0b00100100], .incH),
  ([0b00101100], .incL),
  ([0b00110100], .incMemHl),
  ([0b00111100], .incA),
  ([0b00000101], .decB),
  ([0b00001101], .decC),
  ([0b00010101], .decD),
  ([0b00011101], .decE),
  ([0b00100101], .decH),
  ([0b00101101], .decL),
  ([0b00110101], .decMemHl),
  ([0b00111101], .decA),
  ([0b00000110, 0x9A], .ldBD8 0x9A),
  ([0b00001110, 0x9A], .ldCD8 0x9A),
  ([0b00010110, 0x9A], .ldDD8 0x9A),
  ([0b00011110, 0x9A], .ldED8 0x9A),
  ([0b00100110, 0x9A], .ldHD8 0x9A),
  ([0b00101110, 0x9A], .ldLD8 0x9A),
  ([0b00110110, 0x9A], .ldMemHlD8 0x9A),
  ([0b00111110, 0x9A], .ldAD8 0x9A)] : List (List Byte × Instr)).all (fun p => isExactly p.1 p.2) = true := by
  decide

/-- x = 0, z = 7. -/
theorem test_decode_x0_z7 : ([
  ([0b00000111], .rlca),
  ([0b00001111], .rrca),
  ([0b00010111], .rla),
  ([0b00011111], .rra),
  ([0b00100111], .daa),
  ([0b00101111], .cpl),
  ([0b00110111], .scf),
  ([0b00111111], .ccf)] : List (List Byte × Instr)).all (fun p => isExactly p.1 p.2) = true := by
  decide

/-- x = 3, z = 0 and 1. -/
theorem test_decode_x3_z0_z1 : ([
  ([0b11000000], .retNz),
  ([0b11001000], .retZ),
  ([0b11010000], .retNc),
  ([0b11011000], .retC),
  ([0b11100000, 0x80], .ldhMemA8A 0x80),
  ([0b11101000, 0xFE], .addSpE8 0xFE),
  ([0b11110000, 0x47], .ldhAMemA8 0x47),
  ([0b11111000, 0x02], .ldHlSpE8 0x02),
  ([0b11000001], .popBc),
  ([0b11010001], .popDe),
  ([0b11100001], .popHl),
  ([0b11110001], .popAf),
  ([0b11001001], .ret),
  ([0b11011001], .reti),
  ([0b11101001], .jpHl),
  ([0b11111001], .ldSpHl)] : List (List Byte × Instr)).all (fun p => isExactly p.1 p.2) = true := by
  decide

/-- x = 3, z = 2 and 3. -/
theorem test_decode_x3_z2_z3 : ([
  ([0b11000010, 0x34, 0x12], .jpNzA16 0x1234),
  ([0b11001010, 0x34, 0x12], .jpZA16 0x1234),
  ([0b11010010, 0x34, 0x12], .jpNcA16 0x1234),
  ([0b11011010, 0x34, 0x12], .jpCA16 0x1234),
  ([0b11100010], .ldMemCA),
  ([0b11101010, 0x34, 0x12], .ldMemA16A 0x1234),
  ([0b11110010], .ldAMemC),
  ([0b11111010, 0x34, 0x12], .ldAMemA16 0x1234),
  ([0b11000011, 0x34, 0x12], .jpA16 0x1234),
  ([0b11010011], .unassigned 0b11010011),
  ([0b11011011], .unassigned 0b11011011),
  ([0b11100011], .unassigned 0b11100011),
  ([0b11101011], .unassigned 0b11101011),
  ([0b11110011], .di),
  ([0b11111011], .ei)] : List (List Byte × Instr)).all (fun p => isExactly p.1 p.2) = true := by
  decide

/-- x = 3, z = 4 and 5. -/
theorem test_decode_x3_z4_z5 : ([
  ([0b11000100, 0x34, 0x12], .callNzA16 0x1234),
  ([0b11001100, 0x34, 0x12], .callZA16 0x1234),
  ([0b11010100, 0x34, 0x12], .callNcA16 0x1234),
  ([0b11011100, 0x34, 0x12], .callCA16 0x1234),
  ([0b11100100], .unassigned 0b11100100),
  ([0b11101100], .unassigned 0b11101100),
  ([0b11110100], .unassigned 0b11110100),
  ([0b11111100], .unassigned 0b11111100),
  ([0b11000101], .pushBc),
  ([0b11010101], .pushDe),
  ([0b11100101], .pushHl),
  ([0b11110101], .pushAf),
  ([0b11001101, 0x34, 0x12], .callA16 0x1234),
  ([0b11011101], .unassigned 0b11011101),
  ([0b11101101], .unassigned 0b11101101),
  ([0b11111101], .unassigned 0b11111101)] : List (List Byte × Instr)).all (fun p => isExactly p.1 p.2) = true := by
  decide

/-- x = 3, z = 6 and 7. -/
theorem test_decode_x3_z6_z7 : ([
  ([0b11000110, 0x9A], .addAD8 0x9A),
  ([0b11001110, 0x9A], .adcAD8 0x9A),
  ([0b11010110, 0x9A], .subD8 0x9A),
  ([0b11011110, 0x9A], .sbcAD8 0x9A),
  ([0b11100110, 0x9A], .andD8 0x9A),
  ([0b11101110, 0x9A], .xorD8 0x9A),
  ([0b11110110, 0x9A], .orD8 0x9A),
  ([0b11111110, 0x9A], .cpD8 0x9A),
  ([0b11000111], .rst00),
  ([0b11001111], .rst08),
  ([0b11010111], .rst10),
  ([0b11011111], .rst18),
  ([0b11100111], .rst20),
  ([0b11101111], .rst28),
  ([0b11110111], .rst30),
  ([0b11111111], .rst38)] : List (List Byte × Instr)).all (fun p => isExactly p.1 p.2) = true := by
  decide

/-- A list that ends inside an instruction is refused by name, and so is an empty one. -/
theorem test_decode_refuses : (match decode [], decode [0x3E], decode [0xC3, 0x50], decode [0xCB] with
    | .error .noBytes, .error (.truncated 0x3E), .error (.truncated 0xC3), .error (.truncated 0xCB) => true
    | _, _, _, _ => false) = true := by
  decide

/-- The row PREFIX CB encodes to bytes that decode to the extended instruction. -/
theorem test_decode_of_prefixCb_row : isExactly (encode (.prefixCb 0x37)) .swapA = true := by decide

/-- A word numbered as the opcode table numbers it: the first byte in bits 7 to 0, bytes above `nbits` zero. -/
theorem test_decodeTableWord : decodeTableWord 24 0x123401 = some (.ldBcD16 0x1234) ∧
    decodeTableWord 16 0x37CB = some .swapA ∧ decodeTableWord 8 0xFA = some (.ldAMemA16 0x0000) := by
  decide

/-! ### One step each -/

/-- The power-on state at `pc`, with these cells of the array and these instruction bytes. -/
def at_ (pc : Word) (bytes : List Byte) (cells : List (Word × Byte)) : State :=
  let s := cells.foldl (fun s p => s.storeCell p.1 p.2) { State.reset with pc := pc }
  bytes.zipIdx.foldl (fun s p => s.storeCell (pc + BitVec.ofNat 16 p.2) p.1) s

/-- The next step completes in a state that passes the check. -/
def runs (s : State) (check : State → Bool) : Bool :=
  match step s with
  | .next t => check t
  | .fault _ => false
  | .refused _ => false

theorem test_v_ld1 : runs { at_ 0x0100 [0x78] [] with b := 0x13 }
    (fun t => t.a == 0x13 && t.f == 0xB0 && t.pc == 0x0101 && t.cycles == 4) = true := by decide
theorem test_v_ld2 : runs { at_ 0x0100 [0x7E] [(0xC000, 0x5A)] with hl := 0xC000 }
    (fun t => t.a == 0x5A && t.cycles == 8) = true := by decide
theorem test_v_ld3 : runs { at_ 0x0100 [0x77] [] with hl := 0xC010, a := 0x99 }
    (fun t => t.cell 0xC010 == 0x99 && t.cycles == 8) = true := by decide
theorem test_v_ld4 : runs (at_ 0x0100 [0x06, 0x05] [])
    (fun t => t.b == 0x05 && t.pc == 0x0102 && t.cycles == 8) = true := by decide
theorem test_v_ld5 : runs { at_ 0x0100 [0x36, 0x7F] [] with hl := 0xC020 }
    (fun t => t.cell 0xC020 == 0x7F && t.pc == 0x0102 && t.cycles == 12) = true := by decide
theorem test_v_ld6 : runs { at_ 0x0100 [0x0A] [(0xC001, 0x22)] with b := 0xC0, c := 0x01 }
    (fun t => t.a == 0x22 && t.cycles == 8) = true := by decide
theorem test_v_ld7 : runs { at_ 0x0100 [0xF2] [] with c := 0x47 }
    (fun t => t.a == 0xFC && t.cycles == 8) = true := by decide
theorem test_v_ld8 : runs { at_ 0x0100 [0xE2] [] with c := 0x81, a := 0x34 }
    (fun t => t.cell 0xFF81 == 0x34 && t.cycles == 8) = true := by decide
theorem test_v_ld9 : runs { at_ 0x0100 [0xE0, 0x80] [] with a := 0x12 }
    (fun t => t.cell 0xFF80 == 0x12 && t.cycles == 12) = true := by decide
theorem test_v_ld10 : runs (at_ 0x0100 [0xF0, 0x47] []) (fun t => t.a == 0xFC && t.cycles == 12) = true := by decide
theorem test_v_ld11 : runs { at_ 0x0100 [0x22] [] with hl := 0xC000, a := 0x11 }
    (fun t => t.cell 0xC000 == 0x11 && t.hl == 0xC001 && t.cycles == 8) = true := by decide
theorem test_v_ld12 : runs { at_ 0x0100 [0x2A] [(0xFFFF, 0x1F)] with hl := 0xFFFF }
    (fun t => t.a == 0x1F && t.hl == 0x0000 && t.cycles == 8) = true := by decide
theorem test_v_ld13 : runs { at_ 0x0100 [0x32] [] with hl := 0x9FFF, a := 0x00 }
    (fun t => t.cell 0x9FFF == 0x00 && t.hl == 0x9FFE && t.cycles == 8) = true := by decide
theorem test_v_ld14 : runs { at_ 0x0100 [0x3A] [(0x0000, 0x00)] with hl := 0x0000 }
    (fun t => t.a == 0x00 && t.hl == 0xFFFF && t.cycles == 8) = true := by decide
theorem test_v_ld15 : runs { at_ 0x0100 [0xEA, 0x10, 0xE0] [] with a := 0x77 }
    (fun t => t.cell 0xE010 == 0x77 && t.cell 0xC010 == 0x77 && t.cycles == 16) = true := by decide
theorem test_v_ld16 : runs (at_ 0x0100 [0xFA, 0x47, 0xFF] [])
    (fun t => t.a == 0xFC && t.pc == 0x0103 && t.cycles == 16) = true := by decide
theorem test_v_ld17 : runs { at_ 0x0100 [0x66] [(0xC000, 0xD0)] with hl := 0xC000 }
    (fun t => t.hl == 0xD000 && t.cycles == 8) = true := by decide
theorem test_v_ld18 : runs { at_ 0x0100 [0x75] [] with hl := 0xC0C0 }
    (fun t => t.cell 0xC0C0 == 0xC0 && t.cycles == 8) = true := by decide
theorem test_v_ld19 : runs { at_ 0x0100 [0x70] [] with hl := 0x2000, b := 0x03 }
    (fun t => t.cart.writes == [(0x2000, 0x03)] && t.cycles == 8) = true := by decide
theorem test_v_ld20 : runs { at_ 0x0100 [0x36, 0xC0] [(0xC000, 0x42), (0xC09F, 0x24)] with hl := 0xFF46 }
    (fun t => t.cell 0xFE00 == 0x42 && t.cell 0xFE9F == 0x24 && t.cycles == 12) = true := by decide +kernel
theorem test_v_lw1 : runs (at_ 0x0100 [0x31, 0x00, 0xD0] [])
    (fun t => t.sp == 0xD000 && t.pc == 0x0103 && t.cycles == 12) = true := by decide
theorem test_v_lw2 : runs (at_ 0x0100 [0x01, 0x34, 0x12] [])
    (fun t => t.b == 0x12 && t.c == 0x34 && t.cycles == 12) = true := by decide
theorem test_v_lw3 : runs { at_ 0x0100 [0x08, 0x00, 0xC1] [] with sp := 0xFFFE }
    (fun t => t.cell 0xC100 == 0xFE && t.cell 0xC101 == 0xFF && t.cycles == 20) = true := by decide
theorem test_v_lw4 : runs { at_ 0x0100 [0x08, 0xFF, 0xFF] [] with sp := 0x1234 }
    (fun t => t.cell 0xFFFF == 0x34 && t.pc == 0x0103 && t.cart.writes == [(0x0000, 0x12)] && t.cycles == 20) = true := by decide
theorem test_v_lw5 : runs { at_ 0x0100 [0xF9] [] with hl := 0xDFF0 }
    (fun t => t.sp == 0xDFF0 && t.cycles == 8) = true := by decide
theorem test_v_lw6 : runs { at_ 0x0100 [0xF8, 0x02] [] with sp := 0xFFF8 }
    (fun t => t.hl == 0xFFFA && t.f == 0x00 && t.cycles == 12) = true := by decide
theorem test_v_lw7 : runs { at_ 0x0100 [0xF8, 0xFF] [] with sp := 0x0001 }
    (fun t => t.hl == 0x0000 && t.f == 0x30 && t.cycles == 12) = true := by decide
theorem test_v_lw9 : runs { at_ 0x0100 [0xC5] [] with b := 0x12, c := 0x34, sp := 0xCFFE }
    (fun t => t.cell 0xCFFD == 0x12 && t.cell 0xCFFC == 0x34 && t.sp == 0xCFFC && t.cycles == 16) = true := by decide
theorem test_v_lw10 : runs (({ at_ 0x0100 [0xF5] [] with a := 0x12, sp := 0xD000 } : State).setF 0xF0)
    (fun t => t.cell 0xCFFF == 0x12 && t.cell 0xCFFE == 0xF0 && t.sp == 0xCFFE && t.cycles == 16) = true := by decide
theorem test_v_lw11 : runs { at_ 0x0100 [0xE1] [(0xCFFC, 0x34), (0xCFFD, 0x12)] with sp := 0xCFFC }
    (fun t => t.hl == 0x1234 && t.sp == 0xCFFE && t.cycles == 12) = true := by decide
theorem test_v_lw12 : runs { at_ 0x0100 [0xF1] [(0xCFFC, 0xFF), (0xCFFD, 0xFF)] with sp := 0xCFFC }
    (fun t => t.a == 0xFF && t.f == 0xF0 && t.cycles == 12) = true := by decide
theorem test_v_lw13 : runs { at_ 0x0100 [0xF1] [(0xCFFC, 0x5F), (0xCFFD, 0x9A)] with sp := 0xCFFC }
    (fun t => t.a == 0x9A && t.f == 0x50 && t.cycles == 12) = true := by decide
theorem test_v_al1 : runs { at_ 0x0100 [0x80] [] with a := 0x3A, b := 0xC6 }
    (fun t => t.a == 0x00 && t.f == 0xB0 && t.cycles == 4) = true := by decide
theorem test_v_al4 : runs { at_ 0x0100 [0x80] [] with a := 0xFF, b := 0x01 }
    (fun t => t.a == 0x00 && t.f == 0xB0 && t.cycles == 4) = true := by decide
theorem test_v_al5 : runs { at_ 0x0100 [0xC6, 0x28] [] with a := 0x19 }
    (fun t => t.a == 0x41 && t.f == 0x20 && t.pc == 0x0102 && t.cycles == 8) = true := by decide
theorem test_v_al6 : runs (({ at_ 0x0100 [0x8B] [] with a := 0xE1, e := 0x0F } : State).setF 0x10)
    (fun t => t.a == 0xF1 && t.f == 0x20 && t.cycles == 4) = true := by decide
theorem test_v_al7 : runs (({ at_ 0x0100 [0x88] [] with a := 0xFF, b := 0x00 } : State).setF 0x10)
    (fun t => t.a == 0x00 && t.f == 0xB0 && t.cycles == 4) = true := by decide
theorem test_v_al8 : runs (({ at_ 0x0100 [0x88] [] with a := 0xFF, b := 0xFF } : State).setF 0x10)
    (fun t => t.a == 0xFF && t.f == 0x30 && t.cycles == 4) = true := by decide
theorem test_v_al9 : runs (({ at_ 0x0100 [0xCE, 0x3B] [] with a := 0xE1 } : State).setF 0x10)
    (fun t => t.a == 0x1D && t.f == 0x10 && t.cycles == 8) = true := by decide
theorem test_v_al10 : runs { at_ 0x0100 [0x93] [] with a := 0x3E, e := 0x3E }
    (fun t => t.a == 0x00 && t.f == 0xC0 && t.cycles == 4) = true := by decide
theorem test_v_al11 : runs { at_ 0x0100 [0x90] [] with a := 0x00, b := 0x01 }
    (fun t => t.a == 0xFF && t.f == 0x70 && t.cycles == 4) = true := by decide
theorem test_v_al13 : runs (({ at_ 0x0100 [0x9C] [] with a := 0x3B, hl := 0x2A4D } : State).setF 0x10)
    (fun t => t.a == 0x10 && t.f == 0x40 && t.cycles == 4) = true := by decide
theorem test_v_al14 : runs (({ at_ 0x0100 [0x98] [] with a := 0x00, b := 0x00 } : State).setF 0x10)
    (fun t => t.a == 0xFF && t.f == 0x70 && t.cycles == 4) = true := by decide
theorem test_v_al15 : runs (({ at_ 0x0100 [0x98] [] with a := 0x00, b := 0xFF } : State).setF 0x10)
    (fun t => t.a == 0x00 && t.f == 0xF0 && t.cycles == 4) = true := by decide
theorem test_v_al17 : runs (({ at_ 0x0100 [0x9F] [] with a := 0x77 } : State).setF 0x10)
    (fun t => t.a == 0xFF && t.f == 0x70 && t.cycles == 4) = true := by decide
theorem test_v_al18 : runs (({ at_ 0x0100 [0xDE, 0x3A] [] with a := 0x3B } : State).setF 0x10)
    (fun t => t.a == 0x00 && t.f == 0xC0 && t.cycles == 8) = true := by decide
theorem test_v_al19 : runs { at_ 0x0100 [0xA5] [] with a := 0x5A, hl := 0x013F }
    (fun t => t.a == 0x1A && t.f == 0x20 && t.cycles == 4) = true := by decide
theorem test_v_al20 : runs { at_ 0x0100 [0xE6, 0x38] [] with a := 0x5A }
    (fun t => t.a == 0x18 && t.f == 0x20 && t.cycles == 8) = true := by decide
theorem test_v_al21 : runs { at_ 0x0100 [0xAF] [] with a := 0x5A }
    (fun t => t.a == 0x00 && t.f == 0x80 && t.cycles == 4) = true := by decide
theorem test_v_al22 : runs { at_ 0x0100 [0xEE, 0x0F] [] with a := 0xFF }
    (fun t => t.a == 0xF0 && t.f == 0x00 && t.cycles == 8) = true := by decide
theorem test_v_al23 : runs { at_ 0x0100 [0xB0] [] with a := 0x5A, b := 0x0F }
    (fun t => t.a == 0x5F && t.f == 0x00 && t.cycles == 4) = true := by decide
theorem test_v_al24 : runs { at_ 0x0100 [0xF6, 0x03] [] with a := 0x5A }
    (fun t => t.a == 0x5B && t.f == 0x00 && t.cycles == 8) = true := by decide
theorem test_v_al25 : runs { at_ 0x0100 [0xB8] [] with a := 0x3C, b := 0x2F }
    (fun t => t.a == 0x3C && t.f == 0x60 && t.cycles == 4) = true := by decide
theorem test_v_al26 : runs { at_ 0x0100 [0xFE, 0x40] [] with a := 0x3C }
    (fun t => t.a == 0x3C && t.f == 0x50 && t.pc == 0x0102 && t.cycles == 8) = true := by decide
theorem test_v_al27 : runs { at_ 0x0100 [0xBE] [(0xC000, 0x3C)] with a := 0x3C, hl := 0xC000 }
    (fun t => t.f == 0xC0 && t.cycles == 8) = true := by decide
theorem test_v_al28 : runs (({ at_ 0x0100 [0x3C] [] with a := 0xFF } : State).setF 0x00)
    (fun t => t.a == 0x00 && t.f == 0xA0 && t.cycles == 4) = true := by decide
theorem test_v_al29 : runs (({ at_ 0x0100 [0x05] [] with b := 0x01 } : State).setF 0x00)
    (fun t => t.b == 0x00 && t.f == 0xC0 && t.cycles == 4) = true := by decide
theorem test_v_al30 : runs (({ at_ 0x0100 [0x34] [(0xC000, 0xFF)] with hl := 0xC000 } : State).setF 0x10)
    (fun t => t.cell 0xC000 == 0x00 && t.f == 0xB0 && t.cycles == 12) = true := by decide
theorem test_v_al31 : runs (({ at_ 0x0100 [0x34] [(0xFF04, 0x0F)] with hl := 0xFF04 } : State).setF 0x10)
    (fun t => t.f == 0x30 && t.cell 0xFF04 == 0x00 && t.cycles == 12) = true := by decide
theorem test_v_al33 : runs (({ at_ 0x0100 [0x35] [(0xFEA0, 0x01)] with hl := 0xFEA0 } : State).setF 0x00)
    (fun t => t.f == 0xC0 && t.cell 0xFEA0 == 0x01 && t.cycles == 12) = true := by decide
theorem test_v_al34 : runs (({ at_ 0x0100 [0x27] [] with a := 0x41 } : State).setF 0x20)
    (fun t => t.a == 0x47 && t.f == 0x00 && t.cycles == 4) = true := by decide
theorem test_v_al35 : runs (({ at_ 0x0100 [0x27] [] with a := 0x9A } : State).setF 0x00)
    (fun t => t.a == 0x00 && t.f == 0x90 && t.cycles == 4) = true := by decide
theorem test_v_al41 : runs (({ at_ 0x0100 [0x2F] [] with a := 0x35 } : State).setF 0x00)
    (fun t => t.a == 0xCA && t.f == 0x60 && t.cycles == 4) = true := by decide
theorem test_v_al42 : runs (((at_ 0x0100 [0x37] []) : State).setF 0x80)
    (fun t => t.f == 0x90 && t.cycles == 4) = true := by decide
theorem test_v_al43 : runs (((at_ 0x0100 [0x3F] []) : State).setF 0xF0)
    (fun t => t.f == 0x80 && t.cycles == 4) = true := by decide
theorem test_v_aw1 : runs (({ at_ 0x0100 [0x09] [] with hl := 0x8A23, b := 0x06, c := 0x05 } : State).setF 0x00)
    (fun t => t.hl == 0x9028 && t.f == 0x20 && t.cycles == 8) = true := by decide
theorem test_v_aw3 : runs (({ at_ 0x0100 [0x09] [] with hl := 0xFFFF, b := 0x00, c := 0x01 } : State).setF 0x80)
    (fun t => t.hl == 0x0000 && t.f == 0xB0 && t.cycles == 8) = true := by decide
theorem test_v_aw4 : runs (({ at_ 0x0100 [0x29] [] with hl := 0x8A23 } : State).setF 0xB0)
    (fun t => t.hl == 0x1446 && t.f == 0xB0 && t.cycles == 8) = true := by decide
theorem test_v_aw5 : runs (({ at_ 0x0100 [0x39] [] with hl := 0x0001, sp := 0xFFFF } : State).setF 0x80)
    (fun t => t.hl == 0x0000 && t.f == 0xB0 && t.cycles == 8) = true := by decide
theorem test_v_aw6 : runs (({ at_ 0x0100 [0x13] [] with d := 0x23, e := 0x5F } : State).setF 0xF0)
    (fun t => t.de == 0x2360 && t.f == 0xF0 && t.cycles == 8) = true := by decide
theorem test_v_aw7 : runs { at_ 0x0100 [0x33] [] with sp := 0xFFFF }
    (fun t => t.sp == 0x0000 && t.cycles == 8) = true := by decide
theorem test_v_aw8 : runs { at_ 0x0100 [0x0B] [] with b := 0x01, c := 0x00 }
    (fun t => t.b == 0x00 && t.c == 0xFF && t.cycles == 8) = true := by decide
theorem test_v_aw9 : runs { at_ 0x0100 [0x2B] [] with hl := 0x0000 }
    (fun t => t.hl == 0xFFFF && t.cycles == 8) = true := by decide
theorem test_v_aw10 : runs { at_ 0x0100 [0xE8, 0xFE] [] with sp := 0xFFF8 }
    (fun t => t.sp == 0xFFF6 && t.f == 0x30 && t.cycles == 16) = true := by decide
theorem test_v_aw11 : runs (({ at_ 0x0100 [0xE8, 0x02] [] with sp := 0xFFFE } : State).setF 0xF0)
    (fun t => t.sp == 0x0000 && t.f == 0x30 && t.cycles == 16) = true := by decide
theorem test_v_rs1 : runs (({ at_ 0x0100 [0x07] [] with a := 0x85 } : State).setF 0x80)
    (fun t => t.a == 0x0B && t.f == 0x10 && t.cycles == 4) = true := by decide
theorem test_v_rs2 : runs (({ at_ 0x0100 [0x07] [] with a := 0x00 } : State).setF 0xF0)
    (fun t => t.a == 0x00 && t.f == 0x00 && t.cycles == 4) = true := by decide
theorem test_v_rs3 : runs (({ at_ 0x0100 [0x17] [] with a := 0x95 } : State).setF 0x10)
    (fun t => t.a == 0x2B && t.f == 0x10 && t.cycles == 4) = true := by decide
theorem test_v_rs4 : runs { at_ 0x0100 [0x0F] [] with a := 0x3B }
    (fun t => t.a == 0x9D && t.f == 0x10 && t.cycles == 4) = true := by decide
theorem test_v_rs5 : runs (({ at_ 0x0100 [0x1F] [] with a := 0x81 } : State).setF 0x00)
    (fun t => t.a == 0x40 && t.f == 0x10 && t.cycles == 4) = true := by decide
theorem test_v_rs6 : runs { at_ 0x0100 [0xCB, 0x00] [] with b := 0x85 }
    (fun t => t.b == 0x0B && t.f == 0x10 && t.pc == 0x0102 && t.cycles == 8) = true := by decide
theorem test_v_rs7 : runs (({ at_ 0x0100 [0xCB, 0x00] [] with b := 0x00 } : State).setF 0xF0)
    (fun t => t.b == 0x00 && t.f == 0x80 && t.cycles == 8) = true := by decide
theorem test_v_rs8 : runs { at_ 0x0100 [0xCB, 0x09] [] with c := 0x01 }
    (fun t => t.c == 0x80 && t.f == 0x10 && t.cycles == 8) = true := by decide
theorem test_v_rs9 : runs (({ at_ 0x0100 [0xCB, 0x15] [] with hl := 0x0180 } : State).setF 0x00)
    (fun t => t.l == 0x00 && t.hl == 0x0100 && t.f == 0x90 && t.cycles == 8) = true := by decide
theorem test_v_rs10 : runs (({ at_ 0x0100 [0xCB, 0x16] [(0xC000, 0x80)] with hl := 0xC000 } : State).setF 0x10)
    (fun t => t.cell 0xC000 == 0x01 && t.f == 0x10 && t.cycles == 16) = true := by decide
theorem test_v_rs11 : runs (({ at_ 0x0100 [0xCB, 0x1F] [] with a := 0x01 } : State).setF 0x00)
    (fun t => t.a == 0x00 && t.f == 0x90 && t.cycles == 8) = true := by decide
theorem test_v_rs12 : runs { at_ 0x0100 [0xCB, 0x22] [] with d := 0xFF }
    (fun t => t.d == 0xFE && t.f == 0x10 && t.cycles == 8) = true := by decide
theorem test_v_rs13 : runs { at_ 0x0100 [0xCB, 0x2F] [] with a := 0x8A }
    (fun t => t.a == 0xC5 && t.f == 0x00 && t.cycles == 8) = true := by decide
theorem test_v_rs14 : runs { at_ 0x0100 [0xCB, 0x28] [] with b := 0x01 }
    (fun t => t.b == 0x00 && t.f == 0x90 && t.cycles == 8) = true := by decide
theorem test_v_rs15 : runs { at_ 0x0100 [0xCB, 0x37] [] with a := 0xF1 }
    (fun t => t.a == 0x1F && t.f == 0x00 && t.cycles == 8) = true := by decide
theorem test_v_rs16 : runs (({ at_ 0x0100 [0xCB, 0x30] [] with b := 0x00 } : State).setF 0x70)
    (fun t => t.b == 0x00 && t.f == 0x80 && t.cycles == 8) = true := by decide
theorem test_v_rs17 : runs { at_ 0x0100 [0xCB, 0x3F] [] with a := 0xFF }
    (fun t => t.a == 0x7F && t.f == 0x10 && t.cycles == 8) = true := by decide
theorem test_v_rs18 : runs (({ at_ 0x0100 [0xCB, 0x7F] [] with a := 0x80 } : State).setF 0x00)
    (fun t => t.f == 0x20 && t.cycles == 8) = true := by decide
theorem test_v_rs19 : runs (({ at_ 0x0100 [0xCB, 0x7C] [] with hl := 0x8000 } : State).setF 0x10)
    (fun t => t.f == 0x30 && t.cycles == 8) = true := by decide
theorem test_v_rs20 : runs (({ at_ 0x0100 [0xCB, 0x46] [(0xC000, 0x01)] with hl := 0xC000 } : State).setF 0x10)
    (fun t => t.f == 0x30 && t.cycles == 12) = true := by decide
theorem test_v_rs21 : runs (({ at_ 0x0100 [0xCB, 0xBF] [] with a := 0xFF } : State).setF 0xB0)
    (fun t => t.a == 0x7F && t.f == 0xB0 && t.cycles == 8) = true := by decide
theorem test_v_rs22 : runs { at_ 0x0100 [0xCB, 0x86] [(0xC000, 0xFF)] with hl := 0xC000 }
    (fun t => t.cell 0xC000 == 0xFE && t.cycles == 16) = true := by decide
theorem test_v_rs23 : runs { at_ 0x0100 [0xCB, 0xDE] [(0xC000, 0x00)] with hl := 0xC000 }
    (fun t => t.cell 0xC000 == 0x08 && t.cycles == 16) = true := by decide
theorem test_v_rs24 : runs { at_ 0x0100 [0xCB, 0xC6] [(0xFF44, 0x90)] with hl := 0xFF44 }
    (fun t => t.cell 0xFF44 == 0x00 && t.cycles == 16) = true := by decide
theorem test_v_ct1 : runs (at_ 0x0100 [0xC3, 0x50, 0x01] [])
    (fun t => t.pc == 0x0150 && t.cycles == 16) = true := by decide
theorem test_v_ct2 : runs (((at_ 0x0200 [0xCA, 0x00, 0x80] []) : State).setF 0x80)
    (fun t => t.pc == 0x8000 && t.cycles == 16) = true := by decide
theorem test_v_ct3 : runs (((at_ 0x0200 [0xCA, 0x00, 0x80] []) : State).setF 0x00)
    (fun t => t.pc == 0x0203 && t.cycles == 12) = true := by decide
theorem test_v_ct4 : runs (((at_ 0x0100 [0xD2, 0x34, 0x12] []) : State).setF 0x10)
    (fun t => t.pc == 0x0103 && t.cycles == 12) = true := by decide
theorem test_v_ct5 : runs (((at_ 0x0100 [0xDA, 0x34, 0x12] []) : State).setF 0x10)
    (fun t => t.pc == 0x1234 && t.cycles == 16) = true := by decide
theorem test_v_ct6 : runs { at_ 0x0100 [0xE9] [] with hl := 0x8000 }
    (fun t => t.pc == 0x8000 && t.cycles == 4) = true := by decide
theorem test_v_ct7 : runs (at_ 0x0109 [0x18, 0xFE] []) (fun t => t.pc == 0x0109 && t.cycles == 12) = true := by decide
theorem test_v_ct9 : runs (at_ 0x0010 [0x18, 0x80] []) (fun t => t.pc == 0xFF92 && t.cycles == 12) = true := by decide
theorem test_v_ct11 : runs (((at_ 0x0106 [0x20, 0xFC] []) : State).setF 0x00)
    (fun t => t.pc == 0x0104 && t.cycles == 12) = true := by decide
theorem test_v_ct12 : runs (((at_ 0x0106 [0x20, 0xFC] []) : State).setF 0x80)
    (fun t => t.pc == 0x0108 && t.cycles == 8) = true := by decide
theorem test_v_ct13 : runs { at_ 0x0106 [0xCD, 0x0C, 0x01] [] with sp := 0xD000 }
    (fun t => t.cell 0xCFFF == 0x01 && t.cell 0xCFFE == 0x09 && t.sp == 0xCFFE && t.pc == 0x010C && t.cycles == 24) = true := by decide
theorem test_v_ct14 : runs (({ at_ 0x0300 [0xD4, 0x00, 0x20] [] with sp := 0xD000 } : State).setF 0x00)
    (fun t => t.pc == 0x2000 && t.sp == 0xCFFE && t.cell 0xCFFF == 0x03 && t.cell 0xCFFE == 0x03 && t.cycles == 24) = true := by decide
theorem test_v_ct15 : runs (({ at_ 0x0300 [0xD4, 0x00, 0x20] [] with sp := 0xD000 } : State).setF 0x10)
    (fun t => t.pc == 0x0303 && t.sp == 0xD000 && t.cycles == 12) = true := by decide
theorem test_v_ct16 : runs (({ at_ 0x0100 [0xCC, 0x00, 0x02] [] with sp := 0xD000 } : State).setF 0x80)
    (fun t => t.pc == 0x0200 && t.sp == 0xCFFE && t.cell 0xCFFF == 0x01 && t.cell 0xCFFE == 0x03 && t.cycles == 24) = true := by decide
theorem test_v_ct17 : runs { at_ 0x0100 [0xC9] [(0xCFFE, 0x09), (0xCFFF, 0x01)] with sp := 0xCFFE }
    (fun t => t.pc == 0x0109 && t.sp == 0xD000 && t.cycles == 16) = true := by decide
theorem test_v_ct18 : runs (({ at_ 0x0100 [0xC8] [(0xCFFE, 0x09), (0xCFFF, 0x01)] with sp := 0xCFFE } : State).setF 0x80)
    (fun t => t.pc == 0x0109 && t.sp == 0xD000 && t.cycles == 20) = true := by decide
theorem test_v_ct19 : runs (({ at_ 0x0100 [0xC8] [(0xCFFE, 0x09), (0xCFFF, 0x01)] with sp := 0xCFFE } : State).setF 0x00)
    (fun t => t.pc == 0x0101 && t.sp == 0xCFFE && t.cycles == 8) = true := by decide
theorem test_v_ct20 : runs (({ at_ 0x0100 [0xD0] [] with sp := 0xD000 } : State).setF 0x10)
    (fun t => t.pc == 0x0101 && t.sp == 0xD000 && t.cycles == 8) = true := by decide
theorem test_v_ct21 : runs { at_ 0x0100 [0xD9] [(0xCFFE, 0x09), (0xCFFF, 0x01)] with sp := 0xCFFE, ime := false }
    (fun t => t.pc == 0x0109 && t.sp == 0xD000 && t.ime == true && t.cycles == 16) = true := by decide
theorem test_v_ct22 : runs { at_ 0x0150 [0xEF] [] with sp := 0xFFFE }
    (fun t => t.pc == 0x0028 && t.sp == 0xFFFC && t.cell 0xFFFD == 0x01 && t.cell 0xFFFC == 0x51 && t.cycles == 16) = true := by decide
theorem test_v_ct23 : runs { at_ 0x0100 [0xC7] [] with sp := 0xD000 }
    (fun t => t.pc == 0x0000 && t.sp == 0xCFFE && t.cell 0xCFFF == 0x01 && t.cell 0xCFFE == 0x01 && t.cycles == 16) = true := by decide
theorem test_v_ct24 : runs { at_ 0x0100 [0xFF] [] with sp := 0xD000 }
    (fun t => t.pc == 0x0038 && t.sp == 0xCFFE && t.cell 0xCFFF == 0x01 && t.cell 0xCFFE == 0x01 && t.cycles == 16) = true := by decide
theorem test_v_sy1 : runs (at_ 0x0100 [0x00] []) (fun t => t.pc == 0x0101 && t.cycles == 4) = true := by decide
theorem test_v_sy2 : runs (at_ 0x0100 [0x76] [])
    (fun t => t.pc == 0x0101 && t.halted == true && t.cycles == 4) = true := by decide
theorem test_v_sy4 : runs { at_ 0x0100 [0xF3] [] with ime := true }
    (fun t => t.pendingDisable == true && t.ime == true && t.pc == 0x0101 && t.cycles == 4) = true := by decide
theorem test_v_sy5 : runs { at_ 0x0100 [0xFB] [] with ime := false }
    (fun t => t.pendingEnable == true && t.ime == false && t.pc == 0x0101 && t.cycles == 4) = true := by decide

/-! ### The machine -/

/-- V-IME2, its second instruction: a pending disable is applied after NOP. -/
theorem test_pending_disable_is_applied :
    runs { at_ 0x0100 [0x00] [] with ime := true, pendingDisable := true }
      (fun t => t.ime == false && t.pendingDisable == false) = true := by decide
/-- V-IME5, its second instruction: another DI postpones it. -/
theorem test_pending_disable_waits_for_di :
    runs { at_ 0x0100 [0xF3] [] with ime := true, pendingDisable := true }
      (fun t => t.ime == true && t.pendingDisable == true) = true := by decide
/-- V-IME7, its second instruction: EI lets the disable through and is itself pending. -/
theorem test_pending_disable_before_ei :
    runs { at_ 0x0100 [0xFB] [] with ime := true, pendingDisable := true }
      (fun t => t.ime == false && t.pendingDisable == false && t.pendingEnable == true) = true := by decide
/-- V-IME11: the compared byte is the first fetched byte, 0xCB and not 0xF3. -/
theorem test_v_ime11 : runs { at_ 0x0101 [0xCB, 0xF3] [] with ime := true, pendingDisable := true }
    (fun t => t.pc == 0x0103 && t.e == 0xD8 && t.ime == false && t.pendingDisable == false) = true := by decide
/-- V-IME12: an immediate is not compared. -/
theorem test_v_ime12 : runs { at_ 0x0101 [0x3E, 0xFB] [] with pendingEnable := true }
    (fun t => t.a == 0xFB && t.pc == 0x0103 && t.ime == true && t.pendingEnable == false) = true := by decide
/-- V-IME13: a pending disable beats RETI. -/
theorem test_v_ime13 :
    runs { at_ 0x0101 [0xD9] [(0xCFFE, 0x50), (0xCFFF, 0x01)] with ime := true, pendingDisable := true, sp := 0xCFFE }
      (fun t => t.pc == 0x0150 && t.sp == 0xD000 && t.ime == false && t.pendingDisable == false) = true := by decide
theorem test_v_dsp1 : runs (at_ 0xFFFF [0x01, 0x55, 0x66] [])
    (fun t => t.c == 0x55 && t.b == 0x66 && t.pc == 0x0002 && t.cycles == 12) = true := by decide
/-- R412 with `STOP_MODE = nop` (log 4): two bytes, no effect. -/
theorem test_stop_goes_on : runs (at_ 0x0100 [0x10, 0x00] [])
    (fun t => t.pc == 0x0102 && t.halted == false && t.cycles == 4) = true := by decide
theorem test_v_flt1 : step (at_ 0x0150 [0xD3] []) =
    .fault (.unassignedOpcode 0xD3 0x0150 { at_ 0x0150 [0xD3] [] with pc := 0x0151 }) := rfl
/-- V-FLT2: the post-instruction check does not run. -/
theorem test_v_flt2 : step { at_ 0x0101 [0xFC] [] with ime := true, pendingDisable := true } =
    .fault (.unassignedOpcode 0xFC 0x0101
      { at_ 0x0101 [0xFC] [] with ime := true, pendingDisable := true, pc := 0x0102 }) := rfl

theorem test_v_bus4 : (((State.reset.writeByte 0xC123 0x11).writeByte 0xE123 0x22).writeByte 0xC123 0x33).readByte
    0xE123 = 0x22 := by decide
theorem test_v_bus6 : (State.reset.writeByte 0xFDFF 0x44).cell 0xDDFF = 0x44 ∧
    (State.reset.writeByte 0xE000 0x45).cell 0xC000 = 0x45 := by decide
theorem test_v_bus7 : ((State.reset.storeCell 0xFEFE 0x00).writeByte 0xFEFE 0x12).readByte 0xFEFE = 0x00 ∧
    (State.reset.writeByte 0xFEFF 0x12).readByte 0xFEFF = 0x12 ∧
    (State.reset.writeByte 0xFE9F 0x13).readByte 0xFE9F = 0x13 := by decide
theorem test_v_bus10 : ((((State.reset.writeByte 0xFF07 0x04).writeByte 0xFF07 0x05).writeByte 0xFF07 0x01).writeByte
    0xFF07 0x06).timerNotices = [0x06, 0x05] := by decide
theorem test_v_bus11 : (State.reset.writeByte 0xA000 0x5A).cell 0xA000 = 0x5A ∧
    (State.reset.writeByte 0xA000 0x5A).cart.writes = [] := by decide
theorem test_v_stk2 : (({ State.reset with sp := 0x0001 } : State).stackPush 0x1234).cell 0xFFFF = 0x34 ∧
    (({ State.reset with sp := 0x0001 } : State).stackPush 0x1234).cart.writes = [(0x0000, 0x12)] := by decide
theorem test_v_dma4 : ((State.reset.storeCell 0xFF46 0x00).writeByte 0xFF46 0xFF).cell 0xFE0F = 0xE1 ∧
    ((State.reset.storeCell 0xFF46 0x00).writeByte 0xFF46 0xFF).cell 0xFE47 = 0xFC := by decide +kernel
theorem test_v_cmp8 : (State.reset.compare 0x40 0x3C).f = 0x50 := by decide
/-- V-INT1, its last step. -/
theorem test_v_int1 : let t := ({ at_ 0x0106 [] [(0xFFFF, 0x01)] with ime := true } : State).serviceInterrupt
    t.ime = false ∧ t.cell 0xFF0F = 0xE0 ∧ t.sp = 0xFFFC ∧ t.cell 0xFFFD = 0x01 ∧ t.cell 0xFFFC = 0x06 ∧
      t.pc = 0x0040 := by decide
/-- V-HLT1: a host write that requests an enabled interrupt wakes the core whatever InterruptMaster is, and
execution goes on at the next instruction. -/
theorem test_v_hlt1 :
    runs { at_ 0x0101 [0x00] [(0xFFFF, 0x04), (0xFF0F, 0x00)] with
        halted := true, host := [{ writes := [(0xFF0F, 0x04)], service := false, wake := true }] }
      (fun t => t.pc == 0x0102 && t.halted == false && t.ime == false && t.cell 0xFF0F == 0x04) = true := by decide
/-- R455: at one boundary the writes come first, then ServiceInterrupt, which here also lifts Halted. -/
theorem test_boundary_order : let t := ({ at_ 0x0101 [] [(0xFFFF, 0x01), (0xFF0F, 0x00)] with
        ime := true, halted := true
        host := [{ writes := [(0xFF0F, 0x02), (0xFF0F, 0x01)], service := true, wake := false }] } : State).afterHost
    t.pc = 0x0040 ∧ t.ime = false ∧ t.halted = false ∧ t.cell 0xFF0F = 0x00 ∧ t.host = [] := by decide
/-- R461: the host cannot write outside 0xFF00 to 0xFF7F. -/
theorem test_host_writable : (State.reset.hostWrite (0xFF80, 0x12)).mem = [] ∧
    (State.reset.hostWrite (0xFF7F, 0x12)).cell 0xFF7F = 0x12 := by decide
/-- The instruction placed is the one that runs, in the array and in a delegated range. -/
theorem test_withFetchWord : runs (State.reset.withFetchWord 16 0x053E) (fun t => t.a == 0x05) = true ∧
    runs (({ State.reset with pc := 0x4000, halted := true } : State).withFetchWord 16 0x053E)
      (fun t => t.a == 0x05) = true := by decide
/-- Writing back the power-on value removes the entry. -/
theorem test_memory_is_canonical : (Memory.write (Memory.write [] 0xFF47 0x00) 0xFF47 0xFC) = [] ∧
    Memory.wf [(0xFF47, 0xFC)] = false ∧ Memory.wf [(2, 0), (1, 0)] = false ∧ Memory.wf [(1, 0), (2, 0)] = true := by
  decide

/-! ### Witnesses: concrete inputs that meet the hypotheses of the statements, at the edges of their ranges -/

/-- A state in which NOP is about to run. -/
def nopState : State := at_ 0xC000 [0x00, 0x00, 0x00] []

/-- Every word of the list passes. -/
def each (l : List Word) (p : Word → Bool) : Bool := l.all p

theorem test_witness_DecodeOfEncode : (Instr.unassigned 0xD3).wf = true ∧ (Instr.ldAB).wf = true := by decide
theorem test_witness_EncodeOfDecode : decode [0x01, 0x34, 0x12, 0xFF] = .ok (.ldBcD16 0x1234, [0xFF]) := rfl
theorem test_witness_UnassignedBytes : baseCost 0xD3 = 0 ∧ baseCost 0xFD = 0 := by decide
theorem test_witness_DecimalAdjust : (0 < 100 ∧ 99 < 100) ∧ ({ State.reset with a := bcd 0 } : State).a = bcd 0 ∧
    ({ State.reset with a := bcd 99 } : State).a = bcd 99 := by decide
theorem test_witness_UnassignedOpcodeIsFatal :
    baseCost ((at_ 0x0150 [0xD3] []).readByte (at_ 0x0150 [0xD3] []).pc) = 0 := by decide
theorem test_witness_StepRuns : nopState.host = [] ∧ nopState.halted = false ∧ nopState.afterHost.halted = false ∧
    decode [nopState.afterHost.readByte nopState.afterHost.pc, nopState.afterHost.readByte (nopState.afterHost.pc + 1),
      nopState.afterHost.readByte (nopState.afterHost.pc + 2)] = .ok (.nop, [0x00, 0x00]) := ⟨rfl, rfl, rfl, rfl⟩
theorem test_witness_StepRuns_listed : let bd : Boundary := { writes := [(0xFF0F, 0x01)], service := true, wake := true }
    ({ nopState with host := [bd] } : State).host = bd :: [] := rfl
theorem test_witness_HaltedCoreWaits : let s := { nopState with halted := true }
    s.host = [] ∧ s.halted = true ∧ requested s = 0 := by decide
theorem test_witness_HaltedCoreWakes : let s := { at_ 0xC000 [0x00] [(0xFFFF, 0x01)] with halted := true }
    s.host = [] ∧ s.halted = true ∧ requested s ≠ 0 := by decide
/-- With host input listed, which requests nothing that is enabled. -/
theorem test_witness_HaltedCoreStaysHalted :
    ({ nopState with halted := true, host := [{ writes := [(0xFF0F, 0x00)], service := true, wake := true }] } :
      State).afterHost.halted = true := by decide
theorem test_witness_PowerOnBytes : each [0x0000, 0x7FFF] (fun a => a.toNat < 0x8000) = true := by decide
theorem test_witness_Deferred : dispatch nopState =
    .next { nopState with pc := 0xC001, cycles := 4 } := rfl
theorem test_witness_BusReadRouting :
    each [0x4000, 0x7FFF, 0xA000, 0xBFFF] (fun a => 0x4000 ≤ a.toNat ∧ a.toNat ≤ 0x7FFF ∨
      0xA000 ≤ a.toNat ∧ a.toNat ≤ 0xBFFF) = true ∧
    each [0x0000, 0x3FFF, 0x8000, 0x9FFF, 0xC000, 0xFFFF] (fun a => ¬ (0x4000 ≤ a.toNat ∧ a.toNat ≤ 0x7FFF ∨
      0xA000 ≤ a.toNat ∧ a.toNat ≤ 0xBFFF)) = true := by decide
theorem test_witness_BusWriteRows :
    each [0x0000, 0x7FFF] (fun a => a.toNat < 0x8000) = true ∧
    each [0xE000, 0xFDFF] (fun a => 0xE000 ≤ a.toNat ∧ a.toNat < 0xFE00) = true ∧
    each [0xFEA0, 0xFEFE] (fun a => 0xFEA0 ≤ a.toNat ∧ a.toNat < 0xFEFF) = true ∧
    each [0xFF04, 0xFF44] (fun a => a = 0xFF04 ∨ a = 0xFF44) = true ∧
    each [0x8000, 0xDFFF, 0xFE00, 0xFE9F, 0xFEFF, 0xFF03, 0xFFFF] (fun a => 0x8000 ≤ a.toNat ∧
      (a.toNat < 0xE000 ∨ 0xFE00 ≤ a.toNat) ∧ (a.toNat < 0xFEA0 ∨ 0xFEFF ≤ a.toNat) ∧
      a ∉ ([0xFF04, 0xFF44, 0xFF46, 0xFF07] : List Word)) = true := by decide
theorem test_witness_DmaCopies : (0 < 0xA0 ∧ 0x9F < 0xA0) ∧
    each [0x0000, 0xFDFF, 0xFEA0, 0xFFFF] (fun x => x.toNat < 0xFE00 ∨ 0xFEA0 ≤ x.toNat) = true := by decide
theorem test_witness_BusWriteFrame : writeTouches 0x2000 0xC000 = false ∧ writeTouches 0xE000 0xC001 = false ∧
    writeTouches 0xFEA0 0xFEA0 = false ∧ writeTouches 0xFF46 0xFEA0 = false ∧ writeTouches 0xA000 0xA000 = false ∧
    writeTouches 0xC000 0xC001 = false := by decide
theorem test_witness_InstructionMemoryFrame :
    exec .pushBc nopState = .next (nopState.stackPush nopState.bc) ∧
    ∀ a ∈ storesTo .pushBc nopState, writeTouches a 0xFFFE = false := by
  refine ⟨rfl, ?_⟩
  rw [show storesTo .pushBc nopState = [0xFFFD, 0xFFFC] from rfl]
  exact List.forall_mem_cons.2 ⟨by decide, List.forall_mem_cons.2 ⟨by decide, fun _ h => absurd h (by simp)⟩⟩
theorem test_witness_InstructionFlagFrame : keepsFlags .ldAB = true ∧
    exec .ldAB nopState = .next { nopState with a := 0x00 } := ⟨rfl, rfl⟩
theorem test_witness_InstructionSystemFrame : exec .cpl nopState =
    .next { nopState with a := 0xFE, sub := true, halfCarry := true } := rfl
theorem test_witness_StackRoundTrip : (plainCell 0xCFFF ∧ plainCell 0xCFFE) ∧ (plainCell 0x8001 ∧ plainCell 0x8000) ∧
    (plainCell 0xE000 ∧ plainCell 0xDFFF) ∧ (plainCell 0xFE9F ∧ plainCell 0xFE9E) ∧
    (plainCell 0xFF07 ∧ plainCell 0xFF06) ∧ (plainCell 0xFFFF ∧ plainCell 0xFFFE) := by
  refine ⟨⟨?_, ?_⟩, ⟨?_, ?_⟩, ⟨?_, ?_⟩, ⟨?_, ?_⟩, ⟨?_, ?_⟩, ?_, ?_⟩ <;> unfold plainCell <;> decide
theorem test_witness_ServiceInterrupt :
    let s := ({ at_ 0xC000 [] [(0xFFFF, 0x18), (0xFF0F, 0xFF)] with ime := true } : State)
    s.ime = true ∧ (∀ j : Fin 5, j < 3 → (s.cell 0xFF0F &&& s.cell 0xFFFF).getLsbD j.val = false) ∧
      (s.cell 0xFF0F &&& s.cell 0xFFFF).getLsbD 3 = true := by decide
theorem test_witness_ServiceInterrupt_not : nopState.ime = false ∧
    ∀ j : Fin 5, (nopState.cell 0xFF0F &&& nopState.cell 0xFFFF).getLsbD j.val = false := by decide
theorem test_witness_StepKeepsTheInvariant : nopState.inv = true ∧
    step nopState = .next { nopState with pc := 0xC001, cycles := 4 } := ⟨by decide, rfl⟩
theorem test_witness_RomAndRestricted : step nopState = .next { nopState with pc := 0xC001, cycles := 4 } ∧
    each [0x0000, 0x7FFF, 0xFEA0, 0xFEFE] (fun x => x.toNat < 0x8000 ∨ (0xFEA0 ≤ x.toNat ∧ x.toNat < 0xFEFF)) = true :=
  ⟨rfl, by decide⟩


end Sys2Proof.Tests
end

/-! PROOFS of the family 10_state.md: the power-on state, the register views, the frame of the interrupt state, and
what every step keeps. What an instruction can do is said once (`exec_cases`), and what a step can do to the array and the
cartridge once (`ArrayInvariant.step_keeps`). -/

namespace Sys2Proof.Proofs

open Sys2Proof.Machine Sys2Proof.Laws

/-! ### The power-on state -/

/-- Below the lowest address listed a rising list answers nothing. -/
theorem cellsGet_eq_none_of_lt {lo a : Nat} {m : List Host.Cell} (hm : cellsRising lo m = true) (ha : a < lo) :
    cellsGet m a = none := by
  induction m generalizing lo with
  | nil => rfl
  | cons p rest ih =>
    obtain ⟨k, w⟩ := p
    simp only [cellsRising, Bool.and_eq_true, decide_eq_true_eq] at hm
    obtain ⟨⟨hlo, -⟩, hrest⟩ := hm
    rw [cellsGet, if_neg (by omega), ih hrest (by omega)]

theorem powerOnKnown_rom {a : Nat} (ha : a < 0x8000) : powerOnKnown a = none :=
  cellsGet_eq_none_of_lt (lo := 0xFF05) (by decide) (by omega)

/-- R44 and R46: the image as far as it reaches, then the fill. -/
theorem powerOn_rom {a : Nat} (ha : a < 0x8000) :
    powerOn a = if a < Config.romLength then Config.readRom a else Config.memInitFill a := by
  simp only [powerOn, powerOnKnown_rom ha, Nat.lt_min, ha, and_true]

theorem cell_reset (a : Word) : State.reset.cell a = powerOn a.toNat := rfl

/-- Settles O43: the values of R42. -/
theorem powerOnRegisters : Obligations.PowerOnRegisters := by
  unfold Obligations.PowerOnRegisters
  decide

/-- R45: the bus reads each power-on byte. -/
theorem readByte_reset_of_mem_powerOnIO :
    ∀ p ∈ powerOnIO.map (fun c => ((BitVec.ofNat 16 c.1, c.2) : Word × Byte)), State.reset.readByte p.1 = p.2 :=
  List.forall_mem_map.2 (by decide)

/-- Settles O44: the 32 bytes are those of `powerOnIO`, the ROM image is `powerOn_rom`. -/
theorem powerOnBytes : Obligations.PowerOnBytes :=
  ⟨readByte_reset_of_mem_powerOnIO, fun a ha => (cell_reset a).trans (powerOn_rom ha), rfl, rfl, rfl, rfl, rfl⟩

/-- Settles O59: both lists are empty and no pending flag is set. -/
theorem powerOnMeetsTheInvariant : Obligations.PowerOnMeetsTheInvariant := rfl

/-! ### The register views -/

theorem reg_setReg (s : State) (r q : Reg8) (v : Byte) :
    (s.setReg r v).reg q = if q = r then v else s.reg q := by
  cases r <;> cases q <;> simp [State.setReg, State.reg, State.h, State.l]

theorem setReg_eq (s : State) (r : Reg8) (v : Byte) :
    s.setReg r v = { s with
      a := (s.setReg r v).a, b := (s.setReg r v).b, c := (s.setReg r v).c, d := (s.setReg r v).d
      e := (s.setReg r v).e, hl := (s.setReg r v).hl } := by
  cases r <;> rfl

theorem reg16_setReg16 (s : State) (p q : Reg16) (w : Word) :
    (s.setReg16 p w).reg16 q = if q = p then w else s.reg16 q := by
  cases p <;> cases q <;> simp [State.setReg16, State.reg16, State.bc, State.de]

theorem setReg16_eq (s : State) (p : Reg16) (w : Word) :
    s.setReg16 p w = { s with
      b := (s.setReg16 p w).b, c := (s.setReg16 p w).c, d := (s.setReg16 p w).d, e := (s.setReg16 p w).e
      hl := (s.setReg16 p w).hl, sp := (s.setReg16 p w).sp } := by
  cases p <;> rfl

theorem hl_toNat (s : State) : s.hl.toNat = (s.reg .h).toNat * 256 + (s.reg .l).toNat := by
  show s.hl.toNat = (hiByte s.hl).toNat * 256 + (loByte s.hl).toNat
  rw [← word_toNat, word_hiByte_loByte]

/-- The packing of four flags in bits 7 to 4 of a byte (R27). -/
def packFlags (z n h c : Bool) : Byte := bitByte z <<< 7 ||| bitByte n <<< 6 ||| bitByte h <<< 5 ||| bitByte c <<< 4

theorem f_eq_packFlags (s : State) : s.f = packFlags s.zero s.sub s.halfCarry s.carry := rfl

theorem packFlags_bits : ∀ z n h c : Bool,
    (packFlags z n h c).getLsbD 7 = z ∧ (packFlags z n h c).getLsbD 6 = n ∧
    (packFlags z n h c).getLsbD 5 = h ∧ (packFlags z n h c).getLsbD 4 = c ∧ packFlags z n h c &&& 0x0F = 0 := by
  decide

/-- Packing the flags a byte unpacks to drops its low nibble. -/
theorem packFlags_getLsbD : ∀ v : Byte,
    packFlags (v.getLsbD 7) (v.getLsbD 6) (v.getLsbD 5) (v.getLsbD 4) = v &&& 0xF0 := by
  decide

theorem f_bits (s : State) :
    s.f.getLsbD 7 = s.zero ∧ s.f.getLsbD 6 = s.sub ∧ s.f.getLsbD 5 = s.halfCarry ∧ s.f.getLsbD 4 = s.carry ∧
    s.f &&& 0x0F = 0 := by
  rw [f_eq_packFlags]
  exact packFlags_bits ..

theorem f_setF (s : State) (v : Byte) : (s.setF v).f = v &&& 0xF0 := by
  rw [f_eq_packFlags]
  exact packFlags_getLsbD v

/-- Settles O45, view by view. -/
theorem registerViewsAgree : Obligations.RegisterViewsAgree := by
  intro s
  obtain ⟨hzero, hsub, hhalf, hcarry, hlow⟩ := f_bits s
  exact ⟨fun r v => ⟨fun q => reg_setReg s r q v, setReg_eq s r v⟩, rfl, rfl, rfl, rfl, rfl, hl_toNat s,
    fun p w => ⟨fun q => reg16_setReg16 s p q w, setReg16_eq s p w⟩, rfl, rfl,
    word_toNat s.b s.c, word_toNat s.d s.e, rfl, rfl, rfl, rfl, rfl, rfl, word_toNat s.a s.f,
    hzero, hsub, hhalf, hcarry, hlow, fun v => ⟨f_setF s v, rfl⟩,
    fun _ _ => ⟨rfl, rfl⟩, rfl, fun _ => rfl, rfl, rfl, rfl, rfl⟩

/-! ### What a handler can do -/

/-- `t` is `s` with its registers, SP, PC and flags written, and nothing else. -/
def RegistersOnly (s t : State) : Prop :=
  t = { s with
    a := t.a, b := t.b, c := t.c, d := t.d, e := t.e, hl := t.hl, sp := t.sp, pc := t.pc
    zero := t.zero, sub := t.sub, halfCarry := t.halfCarry, carry := t.carry }

theorem RegistersOnly.mem {s t : State} (h : RegistersOnly s t) : t.mem = s.mem := by rw [h]

theorem RegistersOnly.cart {s t : State} (h : RegistersOnly s t) : t.cart = s.cart := by rw [h]

/-- What a handler leaves when it writes no interrupt bit and no latch: registers and flags written, and bus
writes made, in any order. -/
inductive Handled : State → State → Prop where
  | registers {s t : State} : RegistersOnly s t → Handled s t
  | busWrite (s : State) (a : Word) (v : Byte) : Handled s (s.writeByte a v)
  | trans {s t u : State} : Handled s t → Handled t u → Handled s u

theorem Handled.refl (s : State) : Handled s s := .registers rfl

theorem handled_setReg (s : State) (r : Reg8) (v : Byte) : Handled s (s.setReg r v) :=
  .registers (by cases r <;> rfl)

theorem handled_setReg16 (s : State) (p : Reg16) (w : Word) : Handled s (s.setReg16 p w) :=
  .registers (by cases p <;> rfl)

theorem handled_setStackReg (s : State) (p : StackReg) (w : Word) : Handled s (s.setStackReg p w) :=
  .registers (by cases p <;> rfl)

theorem handled_setFlags (s : State) (z n hc cy : Bool) : Handled s (s.setFlags z n hc cy) := .registers rfl

theorem handled_setOperand (s : State) (x : Operand8) (v : Byte) : Handled s (s.setOperand x v) := by
  cases x with
  | reg r => exact handled_setReg s r v
  | memHl => exact .busWrite s s.hl v

theorem handled_writeWord (s : State) (a w : Word) : Handled s (s.writeWord a w) :=
  .trans (.busWrite s a _) (.busWrite _ (a + 1) _)

theorem handled_pushByte (s : State) (v : Byte) : Handled s (s.pushByte v) :=
  .trans (.registers rfl : Handled s { s with sp := s.sp - 1 }) (.busWrite _ _ v)

theorem handled_stackPush (s : State) (w : Word) : Handled s (s.stackPush w) :=
  .trans (handled_pushByte s _) (handled_pushByte _ _)

theorem handled_storeAStep (s : State) (k : Word) : Handled s (Machine.storeAStep k s) :=
  .trans (.busWrite s s.hl s.a) (.registers rfl)

theorem handled_popReg (s : State) (p : StackReg) : Handled s (popReg p s) :=
  .trans (.registers rfl : Handled s s.stackDrop) (handled_setStackReg _ p _)

theorem handled_alu (s : State) (o : Alu) (v : Byte) : Handled s (o.run v s) :=
  .registers (by cases o <;> rfl)

theorem handled_inc8 (s : State) (x : Operand8) : Handled s (Machine.inc8 x s) :=
  .trans (handled_setOperand s x _) (handled_setFlags ..)

theorem handled_dec8 (s : State) (x : Operand8) : Handled s (Machine.dec8 x s) :=
  .trans (handled_setOperand s x _) (handled_setFlags ..)

theorem handled_rotateAt (s : State) (rot : Byte → Bool → Byte × Bool) (x : Operand8) :
    Handled s (Machine.rotateAt rot x s) :=
  .trans (handled_setOperand s x _) (handled_setFlags ..)

theorem handled_bitTest (s : State) (b : Nat) (x : Operand8) : Handled s (Machine.bitTest b x s) := .registers rfl

theorem handled_bitReset (s : State) (b : Nat) (x : Operand8) : Handled s (Machine.bitReset b x s) :=
  handled_setOperand s x _

theorem handled_bitSet (s : State) (b : Nat) (x : Operand8) : Handled s (Machine.bitSet b x s) :=
  handled_setOperand s x _

theorem handled_runExtended (s : State) (op2 : Byte) : Handled s (runExtended op2 s) := by
  unfold runExtended
  split
  · exact handled_rotateAt ..
  · exact handled_bitTest ..
  · exact handled_bitReset ..
  · exact handled_bitSet ..

theorem handled_callTo (w : Word) (s : State) : Handled s (callTo w s) :=
  .trans (handled_stackPush s s.pc) (.registers rfl)

theorem handled_jump (w : Word) (s : State) : Handled s (Machine.jump w s) := .registers rfl

theorem handled_jumpRel (e : Byte) (s : State) : Handled s (Machine.jumpRel e s) := .registers rfl

theorem handled_ret (s : State) : Handled s (Machine.ret s) := .registers rfl

theorem handled_onCond {f : State → State} (h : ∀ s, Handled s (f s)) (cc : Option Cond) (s : State) :
    Handled s (onCond cc f s) := by
  cases cc with
  | none => exact h s
  | some cc =>
    show Handled s (if s.holds cc then f s else s)
    split
    · exact h s
    · exact .refl s

theorem Handled.of_next {s t u : State} (h : (.next u : Out) = .next t) (hu : Handled s u) : Handled s t := by
  cases h
  exact hu

/-- All that a form of meaning can do: registers, flags and bus writes; but RETI, DI, EI and HALT do what their
rules say (R388, R413, R414, R411). -/
theorem run_cases {act : Action} {s t : State} (h : act.run s = .next t) :
    Handled s t ∨ (act = .reti ∧ t = s.returnFromInterrupt) ∨ (act = .di ∧ t = { s with pendingDisable := true }) ∨
    (act = .ei ∧ t = { s with pendingEnable := true }) ∨ (act = .halt ∧ t = { s with halted := true }) := by
  cases act with
  | reti => cases h; exact .inr (.inl ⟨rfl, rfl⟩)
  | di => cases h; exact .inr (.inr (.inl ⟨rfl, rfl⟩))
  | ei => cases h; exact .inr (.inr (.inr (.inl ⟨rfl, rfl⟩)))
  | halt => cases h; exact .inr (.inr (.inr (.inr ⟨rfl, rfl⟩)))
  | unassigned op => cases h
  | nop => exact .inl (.of_next h (.refl s))
  | stop => exact .inl (.of_next h (.refl s))
  | loadReg dst src => exact .inl (.of_next h (handled_setReg ..))
  | loadFrom dst m => exact .inl (.of_next h (handled_setReg ..))
  | storeReg r m => exact .inl (.of_next h (.busWrite ..))
  | loadImm r n => exact .inl (.of_next h (handled_setReg ..))
  | storeImm n => exact .inl (.of_next h (.busWrite ..))
  | storeAStep k => exact .inl (.of_next h (handled_storeAStep s k))
  | loadAStep k => exact .inl (.of_next h (.registers rfl))
  | loadImm16 p w => exact .inl (.of_next h (handled_setReg16 ..))
  | storeSp w => exact .inl (.of_next h (handled_writeWord ..))
  | loadSpHl => exact .inl (.of_next h (.registers rfl))
  | loadHlSp e => exact .inl (.of_next h (.registers rfl))
  | push p => exact .inl (.of_next h (handled_stackPush ..))
  | pop p => exact .inl (.of_next h (handled_popReg s p))
  | alu o x => exact .inl (.of_next h (handled_alu s o _))
  | inc8 x => exact .inl (.of_next h (handled_inc8 s x))
  | dec8 x => exact .inl (.of_next h (handled_dec8 s x))
  | daa => exact .inl (.of_next h (.registers rfl))
  | cpl => exact .inl (.of_next h (.registers rfl))
  | scf => exact .inl (.of_next h (handled_setFlags ..))
  | ccf => exact .inl (.of_next h (handled_setFlags ..))
  | addHl p => exact .inl (.of_next h (.registers rfl))
  | step16 p k => exact .inl (.of_next h (handled_setReg16 ..))
  | addSp e => exact .inl (.of_next h (.registers rfl))
  | rotateA rot => exact .inl (.of_next h (.registers rfl))
  | rotateAt rot x => exact .inl (.of_next h (handled_rotateAt s rot x))
  | bitTest b x => exact .inl (.of_next h (handled_bitTest ..))
  | bitReset b x => exact .inl (.of_next h (handled_bitReset ..))
  | bitSet b x => exact .inl (.of_next h (handled_bitSet ..))
  | extended op2 => exact .inl (.of_next h (handled_runExtended s op2))
  | jumpHl => exact .inl (.of_next h (handled_jump ..))
  | jump cc w => exact .inl (.of_next h (handled_onCond (handled_jump w) cc s))
  | jumpRel cc e => exact .inl (.of_next h (handled_onCond (handled_jumpRel e) cc s))
  | call cc w => exact .inl (.of_next h (handled_onCond (handled_callTo w) cc s))
  | ret cc => exact .inl (.of_next h (handled_onCond handled_ret cc s))

theorem eq_reti_of_action {i : Instr} (h : action i = .reti) : i = .reti := by
  cases i <;> cases h
  rfl

theorem eq_di_of_action {i : Instr} (h : action i = .di) : i = .di := by
  cases i <;> cases h
  rfl

theorem eq_ei_of_action {i : Instr} (h : action i = .ei) : i = .ei := by
  cases i <;> cases h
  rfl

theorem eq_halt_of_action {i : Instr} (h : action i = .halt) : i = .halt := by
  cases i <;> cases h
  rfl

/-- `run_cases` for the instructions themselves. -/
theorem exec_cases {i : Instr} {s t : State} (h : exec i s = .next t) :
    Handled s t ∨ (i = .reti ∧ t = s.returnFromInterrupt) ∨ (i = .di ∧ t = { s with pendingDisable := true }) ∨
    (i = .ei ∧ t = { s with pendingEnable := true }) ∨ (i = .halt ∧ t = { s with halted := true }) := by
  rw [exec_eq_run] at h
  exact (run_cases h).imp_right (.imp (.imp_left eq_reti_of_action)
    (.imp (.imp_left eq_di_of_action) (.imp (.imp_left eq_ei_of_action) (.imp_left eq_halt_of_action))))

/-! ### The interrupt state over every instruction -/

/-- The interrupt bits, the latch, the host's inputs, the returned cost and the cartridge's own cells are the same. -/
structure SameSystem (s t : State) : Prop where
  ime : t.ime = s.ime
  pendingDisable : t.pendingDisable = s.pendingDisable
  pendingEnable : t.pendingEnable = s.pendingEnable
  halted : t.halted = s.halted
  host : t.host = s.host
  cycles : t.cycles = s.cycles
  fixed : t.cart.fixed = s.cart.fixed

theorem Handled.sameSystem {s t : State} (h : Handled s t) : SameSystem s t := by
  induction h with
  | registers h =>
    rw [h]
    exact ⟨rfl, rfl, rfl, rfl, rfl, rfl, rfl⟩
  | busWrite s a v => exact ⟨by simp, by simp, by simp, by simp, by simp, by simp, State.fixed_writeByte s a v⟩
  | trans _ _ h₁ h₂ =>
    exact ⟨h₂.ime.trans h₁.ime, h₂.pendingDisable.trans h₁.pendingDisable, h₂.pendingEnable.trans h₁.pendingEnable,
      h₂.halted.trans h₁.halted, h₂.host.trans h₁.host, h₂.cycles.trans h₁.cycles, h₂.fixed.trans h₁.fixed⟩

/-- Settles O53: of what a handler can do, only the four named instructions' own writes are no `Handled`. -/
theorem instructionSystemFrame : Obligations.InstructionSystemFrame := by
  intro i s t h
  rcases exec_cases h with hs | ⟨rfl, rfl⟩ | ⟨rfl, rfl⟩ | ⟨rfl, rfl⟩ | ⟨rfl, rfl⟩
  · obtain ⟨hime, hdisable, henable, hhalted, hhost, hcycles, hfixed⟩ := hs.sameSystem
    exact ⟨fun _ => hime, fun _ => hdisable, fun _ => henable, fun _ => hhalted, hhost, hcycles, hfixed⟩
  · exact ⟨fun hi => absurd rfl hi, fun _ => rfl, fun _ => rfl, fun _ => rfl, rfl, rfl, rfl⟩
  · exact ⟨fun _ => rfl, fun hi => absurd rfl hi, fun _ => rfl, fun _ => rfl, rfl, rfl, rfl⟩
  · exact ⟨fun _ => rfl, fun _ => rfl, fun hi => absurd rfl hi, fun _ => rfl, rfl, rfl, rfl⟩
  · exact ⟨fun _ => rfl, fun _ => rfl, fun _ => rfl, fun hi => absurd rfl hi, rfl, rfl, rfl⟩

/-! ### What a step can do -/

theorem dispatch_cases {s t : State} (h : dispatch s = .next t) :
    ∃ u, exec s.fetchInstr (s.pastInstr s.fetchInstr) = .next u ∧
      t = State.finish s.fetchInstr (s.readByte s.pc) (s.pastInstr s.fetchInstr) u := by
  unfold dispatch at h
  dsimp only at h
  split at h
  · next u hu => exact ⟨u, hu, (Host.Outcome.next.inj h).symm⟩
  · cases h
  · cases h

theorem step_cases {s t : State} (h : step s = .next t) :
    (s.afterHost.halted = true ∧ t = s.afterHost) ∨ dispatch s.afterHost = .next t := by
  unfold step boundaryThenDispatch at h
  split at h
  · next hh => exact .inl ⟨hh, (Host.Outcome.next.inj h).symm⟩
  · exact .inr h

/-- A property of the array and the cartridge that bus writes and the host's own stores keep. -/
structure ArrayInvariant (P : State → Prop) : Prop where
  of_eq : ∀ {s t : State}, P s → t.mem = s.mem → t.cart = s.cart → P t
  writeByte : ∀ {s : State} (a : Word) (v : Byte), P s → P (s.writeByte a v)
  hostStore : ∀ {s : State} {a : Word} (v : Byte), Config.hostWritable a = true → P s → P (s.storeCell a v)

namespace ArrayInvariant

variable {P : State → Prop} (hP : ArrayInvariant P)
include hP

theorem handled_keeps {s t : State} (h : Handled s t) : P s → P t := by
  induction h with
  | registers h => exact fun hs => hP.of_eq hs h.mem h.cart
  | busWrite s a v => exact hP.writeByte a v
  | trans _ _ h₁ h₂ => exact h₂ ∘ h₁

theorem exec_keeps {i : Instr} {s t : State} (h : exec i s = .next t) (hs : P s) : P t := by
  rcases exec_cases h with hh | ⟨-, rfl⟩ | ⟨-, rfl⟩ | ⟨-, rfl⟩ | ⟨-, rfl⟩
  · exact hP.handled_keeps hh hs
  all_goals exact hP.of_eq hs rfl rfl

theorem hostWrite_keeps {s : State} (p : Word × Byte) (hs : P s) : P (s.hostWrite p) := by
  unfold State.hostWrite
  split
  · next ha => exact hP.hostStore p.2 ha hs
  · exact hs

theorem hostWrites_keeps {s : State} (ps : List (Word × Byte)) (hs : P s) : P (ps.foldl State.hostWrite s) :=
  List.foldlRecOn ps State.hostWrite hs fun _ hb p _ => hP.hostWrite_keeps p hb

/-- Taking an interrupt clears the request bit in the array and pushes PC through the bus (R452). -/
theorem takeInterrupt_keeps {s : State} (i : Nat) (hs : P s) : P (s.takeInterrupt i) := by
  have hclear : P (({ s with ime := false } : State).storeCell 0xFF0F
      (({ s with ime := false } : State).cell 0xFF0F &&& ~~~(1#8 <<< i))) :=
    hP.hostStore _ (by decide) (hP.of_eq hs rfl rfl)
  exact hP.of_eq (hP.handled_keeps (handled_stackPush _ s.pc) hclear) rfl rfl

theorem serviceInterrupt_keeps {s : State} (hs : P s) : P s.serviceInterrupt := by
  unfold State.serviceInterrupt
  split
  · exact hP.takeInterrupt_keeps _ hs
  · exact hs

theorem wakeFromHalt_keeps {s : State} (hs : P s) : P s.wakeFromHalt := hP.of_eq hs (by simp) (by simp)

theorem atBoundary_keeps {s : State} (bd : Boundary) (hs : P s) : P (s.atBoundary bd) := by
  have hw := hP.hostWrites_keeps bd.writes hs
  unfold State.atBoundary
  dsimp only
  cases bd.service <;> cases bd.wake
  · exact hw
  · exact hP.wakeFromHalt_keeps hw
  · exact hP.serviceInterrupt_keeps hw
  · exact hP.wakeFromHalt_keeps (hP.serviceInterrupt_keeps hw)

theorem afterHost_keeps {s : State} (hs : P s) : P s.afterHost := hP.atBoundary_keeps _ (hP.of_eq hs rfl rfl)

theorem dispatch_keeps {s t : State} (h : dispatch s = .next t) (hs : P s) : P t := by
  obtain ⟨u, hu, rfl⟩ := dispatch_cases h
  have hafter : P u := hP.exec_keeps hu (hP.of_eq hs rfl rfl)
  exact hP.of_eq hafter (State.deferredCheck_mem ..) (State.deferredCheck_cart ..)

/-- Every step keeps such a property, whatever the instruction and whatever the host does at the boundary. -/
theorem step_keeps {s t : State} (h : step s = .next t) (hs : P s) : P t := by
  rcases step_cases h with ⟨-, rfl⟩ | hd
  · exact hP.afterHost_keeps hs
  · exact hP.dispatch_keeps hd (hP.afterHost_keeps hs)

end ArrayInvariant

/-! ### The ROM image and the restricted range -/

/-- The cells no write reaches: below 0x8000 (R71) and 0xFEA0 to 0xFEFE (R73). -/
def writeProtected (x : Word) : Prop := x.toNat < 0x8000 ∨ 0xFEA0 ≤ x.toNat ∧ x.toNat < 0xFEFF

theorem cell_storeCell_protected (s : State) {a x : Word} (hx : writeProtected x) (ha : ¬ writeProtected a) (v : Byte) :
    (s.storeCell a v).cell x = s.cell x :=
  State.cell_storeCell_ne s (by rintro rfl; exact ha hx) v

theorem not_writeProtected_iff {a : Word} :
    ¬ writeProtected a ↔ 0x8000 ≤ a.toNat ∧ (a.toNat < 0xFEA0 ∨ 0xFEFF ≤ a.toNat) := by
  unfold writeProtected
  omega

theorem cell_dmaCopy_protected (base : Word) {n : Nat} (hn : n ≤ 0xA0) (s : State) {x : Word} (hx : writeProtected x) :
    (State.dmaCopy base n s).cell x = s.cell x := by
  induction n with
  | zero => rfl
  | succ n ih =>
    have hd := State.dmaDest_toNat (n := n) (by omega)
    rw [State.dmaCopy_succ base (by omega), cell_storeCell_protected _ hx (not_writeProtected_iff.2 (by omega)),
      ih (by omega)]

theorem cell_writeTimerControl_protected (s : State) (v : Byte) {x : Word} (hx : writeProtected x) :
    (s.writeTimerControl v).cell x = s.cell x := by
  have hstore := cell_storeCell_protected s hx (a := 0xFF07) (not_writeProtected_iff.2 (by decide)) v
  unfold State.writeTimerControl
  dsimp only
  split
  · exact hstore
  · exact hstore

/-- Row by row of R70: no bus write changes a protected cell. -/
theorem cell_writeByte_protected (s : State) (a : Word) (v : Byte) {x : Word} (hx : writeProtected x) :
    (s.writeByte a v).cell x = s.cell x := by
  by_cases hrom : a.toNat < 0x8000
  · simp only [State.writeByte, if_pos hrom]; rfl
  by_cases hecho : 0xE000 ≤ a.toNat ∧ a.toNat < 0xFE00
  · have hm := State.echo_mirror_toNat hecho
    rw [State.writeByte_echo s v hecho, cell_storeCell_protected _ hx (not_writeProtected_iff.2 (by omega)),
      cell_storeCell_protected _ hx (not_writeProtected_iff.2 (by omega))]
  unfold State.writeByte
  rw [if_neg hrom, if_neg hecho]
  split
  · rfl
  next hrestricted =>
  split
  · exact cell_storeCell_protected s hx (not_writeProtected_iff.2 (by decide)) _
  split
  · exact cell_storeCell_protected s hx (not_writeProtected_iff.2 (by decide)) _
  split
  · exact cell_dmaCopy_protected _ (Nat.le_refl _) s hx
  split
  · exact cell_writeTimerControl_protected s v hx
  · exact cell_storeCell_protected s hx (not_writeProtected_iff.2 (by omega)) v

theorem arrayInvariant_cell {x : Word} (hx : writeProtected x) (c : Byte) :
    ArrayInvariant fun s => s.cell x = c where
  of_eq hs hm _ := by simpa only [State.cell, hm] using hs
  writeByte a v hs := (cell_writeByte_protected _ a v hx).trans hs
  hostStore v ha hs := by
    simp only [Config.hostWritable, decide_eq_true_eq] at ha
    exact (cell_storeCell_protected _ hx (not_writeProtected_iff.2 (by omega)) v).trans hs

/-- Settles O60: the value of a protected cell is an `ArrayInvariant`. -/
theorem romAndRestrictedCellsNeverChange : Obligations.RomAndRestrictedCellsNeverChange :=
  fun _ _ _ h hx => (arrayInvariant_cell hx _).step_keeps h rfl

/-! ### The invariant of an instruction boundary -/

theorem arrayInvariant_wf : ArrayInvariant fun s => s.mem.wf = true ∧ cellsRising 0 s.cart.fixed = true where
  of_eq hs hm hc := by rwa [hm, hc]
  writeByte a v hs := ⟨State.wf_writeByte hs.1 a v, by rw [State.fixed_writeByte]; exact hs.2⟩
  hostStore v _ hs := ⟨State.wf_storeCell hs.1 _ v, hs.2⟩

/-- All that the post-instruction check does (R167), by the two flags and what the first byte is. -/
theorem deferredCheck_eq (s : State) (op : Byte) :
    s.deferredCheck op = { s with
      pendingDisable := s.pendingDisable && decide (op = Config.opDI)
      pendingEnable := s.pendingEnable && decide (op = Config.opEI)
      ime := if s.pendingEnable && !decide (op = Config.opEI) then true
        else if s.pendingDisable && !decide (op = Config.opDI) then false else s.ime } := by
  obtain ⟨_, _, _, _, _, _, _, _, _, _, _, _, _, disable, enable, _, _, _, _, _, _⟩ := s
  simp only [State.deferredCheck, decide_not]
  cases disable <;> cases enable <;> cases decide (op = Config.opDI) <;> cases decide (op = Config.opEI) <;> rfl

/-- R31: no byte is both DI's and EI's, so the check leaves at most one pending flag (R167). -/
theorem deferredCheck_pending (s : State) (op : Byte) :
    ((s.deferredCheck op).pendingDisable && (s.deferredCheck op).pendingEnable) = false := by
  rw [deferredCheck_eq]
  by_cases hop : op = Config.opDI
  · have hei : op ≠ Config.opEI := by rw [hop]; decide
    simp [hei]
  · simp [hop]

theorem hostWrites_pending (ps : List (Word × Byte)) (s : State) :
    (ps.foldl State.hostWrite s).pendingDisable = s.pendingDisable ∧
    (ps.foldl State.hostWrite s).pendingEnable = s.pendingEnable := by
  induction ps generalizing s with
  | nil => exact ⟨rfl, rfl⟩
  | cons p ps ih => simpa using ih (s.hostWrite p)

theorem serviceInterrupt_pending (s : State) :
    s.serviceInterrupt.pendingDisable = s.pendingDisable ∧ s.serviceInterrupt.pendingEnable = s.pendingEnable := by
  unfold State.serviceInterrupt
  split <;> simp

/-- Nothing the host does at a boundary sets or clears a pending flag. -/
theorem afterHost_pending (s : State) :
    s.afterHost.pendingDisable = s.pendingDisable ∧ s.afterHost.pendingEnable = s.pendingEnable := by
  obtain ⟨hd, he⟩ := hostWrites_pending s.nextBoundary.writes { s with host := s.host.tail }
  unfold State.afterHost State.atBoundary
  dsimp only
  split <;> split <;> simp [serviceInterrupt_pending, hd, he]

theorem inv_iff (s : State) : s.inv = true ↔
    (s.mem.wf = true ∧ cellsRising 0 s.cart.fixed = true) ∧ (s.pendingDisable && s.pendingEnable) = false := by
  simp only [State.inv, Bool.and_eq_true, Bool.not_eq_true']

/-- Settles O58: the canonical forms are an `ArrayInvariant`; the pending flags are the deferred check's where an
instruction runs, and those of before where the core stays halted. -/
theorem stepKeepsTheInvariant : Obligations.StepKeepsTheInvariant := by
  intro s t hs h
  obtain ⟨hwf, hpending⟩ := (inv_iff s).1 hs
  refine (inv_iff t).2 ⟨arrayInvariant_wf.step_keeps h hwf, ?_⟩
  rcases step_cases h with ⟨-, rfl⟩ | hd
  · obtain ⟨hd, he⟩ := afterHost_pending s
    rw [hd, he, hpending]
  · obtain ⟨u, -, rfl⟩ := dispatch_cases hd
    exact deferredCheck_pending u _

end Sys2Proof.Proofs

/-! PROOFS of the family 20_memory.md: where bus reads and writes go, the DMA transfer, the timer control register, the
frame of a bus write and the stack. A bus write is said row by row of R70: a banking write, an echo write, nothing, a
transfer, or a store in the address's own cell (`busRow_cases`, one `writeByte_` equation per row). -/

namespace Sys2Proof.Proofs

open Sys2Proof.Machine Sys2Proof.Laws Sys2Proof.Statements

/-! ### Where a bus read goes -/

theorem delegated_iff {a : Word} : State.delegated a = true ↔
    0x4000 ≤ a.toNat ∧ a.toNat ≤ 0x7FFF ∨ 0xA000 ≤ a.toNat ∧ a.toNat ≤ 0xBFFF := by
  simp only [State.delegated, Bool.or_eq_true, decide_eq_true_eq]

/-- Settles O46: the delegated ranges are those of `State.delegated`. -/
theorem busReadRouting : Obligations.BusReadRouting :=
  fun s _ => ⟨fun h => s.readByte_of_delegated (delegated_iff.2 h),
    fun h => s.readByte_of_not_delegated (Bool.eq_false_iff.2 (mt delegated_iff.1 h))⟩

/-! ### The timer control register -/

theorem clockFreq_eq_iff (v w : Byte) : Config.clockFreq v = Config.clockFreq w ↔ v.toNat % 4 = w.toNat % 4 := by
  simp only [Config.clockFreq, ← BitVec.toNat_inj, BitVec.extractLsb'_toNat, Nat.shiftRight_zero, Nat.reducePow]

/-- All that the timer control write does (R79): the byte stored, and the notice where the frequency changes. -/
theorem writeTimerControl_eq_storeCell (s : State) (v : Byte) :
    s.writeTimerControl v = { s.storeCell 0xFF07 v with
      timerNotices := if (s.cell 0xFF07).toNat % 4 = v.toNat % 4 then s.timerNotices else v :: s.timerNotices } := by
  simp only [State.writeTimerControl, State.cell_storeCell_same, clockFreq_eq_iff]
  split <;> rfl

theorem cell_storeCell (s : State) (a x : Word) (v : Byte) :
    (s.storeCell a v).cell x = if x = a then v else s.cell x := by
  split
  · next hx => rw [hx, State.cell_storeCell_same]
  · next hx => exact s.cell_storeCell_ne hx v

/-- R79. -/
theorem writeByte_timerControl (s : State) (v : Byte) : s.writeByte 0xFF07 v = s.writeTimerControl v := rfl

/-- Settles O49: row 7 is `writeTimerControl`. -/
theorem timerControlNotifiesOnChange : Obligations.TimerControlNotifiesOnChange := by
  intro s v x
  rw [writeByte_timerControl, writeTimerControl_eq_storeCell]
  exact ⟨cell_storeCell s 0xFF07 x v, rfl, rfl⟩

/-! ### The rows of a bus write -/

/-- R71. -/
theorem writeByte_rom (s : State) {a : Word} (v : Byte) (h : a.toNat < 0x8000) : s.writeByte a v = s.bankWrite a v :=
  if_pos h

/-- R73. -/
theorem writeByte_restricted (s : State) {a : Word} (v : Byte) (h : 0xFEA0 ≤ a.toNat ∧ a.toNat < 0xFEFF) :
    s.writeByte a v = s := by
  unfold State.writeByte
  rw [if_neg (by omega), if_neg (by omega), if_pos h]

/-- R75, R76: the two registers any write clears. -/
theorem writeByte_cleared (s : State) {a : Word} (v : Byte) (h : a = 0xFF04 ∨ a = 0xFF44) :
    s.writeByte a v = s.storeCell a 0 := by
  rcases h with rfl | rfl <;> rfl

/-- R77. -/
theorem writeByte_dma (s : State) (page : Byte) : s.writeByte 0xFF46 page = State.dmaCopy (word page 0) 0xA0 s := rfl

theorem cell_writeByte_echo (s : State) {a : Word} (x : Word) (v : Byte) (h : 0xE000 ≤ a.toNat ∧ a.toNat < 0xFE00) :
    (s.writeByte a v).cell x = if x = a ∨ x = a - 0x2000 then v else s.cell x := by
  rw [State.writeByte_echo s v h, cell_storeCell, cell_storeCell]
  by_cases hmirror : x = a - 0x2000
  · simp only [hmirror, or_true, if_true]
  · simp only [hmirror, or_false, if_false]

/-- Settles O47, row by row. -/
theorem busWriteRows : Obligations.BusWriteRows := by
  intro s a x v
  refine ⟨writeByte_rom s v, fun hlo hhi => ⟨cell_writeByte_echo s x v ⟨hlo, hhi⟩, ?_⟩,
    fun hlo hhi => writeByte_restricted s v ⟨hlo, hhi⟩, fun h => ?_, fun ⟨hrom, hecho, hrestricted, hspecial⟩ => ?_⟩
  · rw [State.writeByte_echo s v ⟨hlo, hhi⟩]
    exact ⟨rfl, rfl⟩
  · rw [writeByte_cleared s v h]
    exact ⟨cell_storeCell s a x 0, rfl, rfl⟩
  · simp only [List.mem_cons, List.not_mem_nil, or_false, not_or] at hspecial
    obtain ⟨hdiv, hly, hdma, htimer⟩ := hspecial
    rw [s.writeByte_plain v hrom hecho hrestricted hdiv hly hdma htimer]
    exact ⟨cell_storeCell s a x v, rfl, rfl⟩

/-! ### The DMA transfer -/

theorem dmaSource_toNat (page : Byte) {n : Nat} (h : n < 0xA0) :
    (word page 0 + BitVec.ofNat 16 n).toNat = page.toNat * 256 + n := by
  have hpage := page.isLt
  have hbase : (word page 0).toNat = page.toNat * 256 := (word_toNat page 0).trans (Nat.add_zero _)
  rw [BitVec.toNat_add, hbase, BitVec.toNat_ofNat]
  omega

theorem not_delegated_dmaDest {n : Nat} (h : n < 0xA0) : State.delegated (0xFE00 + BitVec.ofNat 16 n) = false := by
  have hdest := State.dmaDest_toNat h
  exact Bool.eq_false_iff.2 (mt delegated_iff.1 (by omega))

/-- The byte for place `n` is read after `n` bytes are copied, and none of those lies where it is read: the source is
below the block, above it, or `n` bytes into it. -/
theorem readByte_dmaSource (s : State) (page : Byte) {n : Nat} (h : n < 0xA0) :
    (State.dmaCopy (word page 0) n s).readByte (word page 0 + BitVec.ofNat 16 n) =
      s.readByte (word page 0 + BitVec.ofNat 16 n) := by
  have hsource := dmaSource_toNat page h
  exact State.readByte_dmaCopy_outside _ (by omega) s (by omega)

/-- R85, R86: each byte copied is the one its source read as before the transfer. -/
theorem readByte_dmaCopy_inside (s : State) (page : Byte) {n i : Nat} (hn : n ≤ 0xA0) (hi : i < n) :
    (State.dmaCopy (word page 0) n s).readByte (0xFE00 + BitVec.ofNat 16 i) =
      s.readByte (word page 0 + BitVec.ofNat 16 i) := by
  induction n with
  | zero => omega
  | succ n ih =>
    rw [State.dmaCopy_succ _ hn, State.readByte_storeCell]
    rcases Nat.lt_succ_iff_lt_or_eq.1 hi with hlt | rfl
    · have hne : (0xFE00 + BitVec.ofNat 16 i : Word) ≠ 0xFE00 + BitVec.ofNat 16 n := by
        intro heq
        have := congrArg BitVec.toNat heq
        rw [State.dmaDest_toNat (by omega), State.dmaDest_toNat hn] at this
        omega
      rw [if_neg fun h => hne h.1, ih (by omega) hlt]
    · rw [if_pos ⟨rfl, not_delegated_dmaDest hn⟩, readByte_dmaSource s page hn]

/-- Settles O48: row 6 is the copy of 160 bytes. -/
theorem dmaCopiesThePage : Obligations.DmaCopiesThePage := by
  intro s page
  rw [writeByte_dma]
  exact ⟨fun _ hi => readByte_dmaCopy_inside s page le_rfl hi,
    fun _ hx => State.readByte_dmaCopy_outside _ le_rfl s hx, State.dmaCopy_rest _ le_rfl s⟩

/-! ### The frame of a bus write -/

/-- The addresses of rows 4, 5, 7 and 8 of R70, where a bus write is one store in the address's own cell. -/
def storesInPlace (a : Word) : Prop :=
  0x8000 ≤ a.toNat ∧ ¬ (0xE000 ≤ a.toNat ∧ a.toNat < 0xFE00) ∧ ¬ (0xFEA0 ≤ a.toNat ∧ a.toNat < 0xFEFF) ∧ a ≠ 0xFF46

/-- Every address is of row 1, 2, 3 or 6 of R70, or a bus write there stores in place. -/
theorem busRow_cases (a : Word) :
    a.toNat < 0x8000 ∨ (0xE000 ≤ a.toNat ∧ a.toNat < 0xFE00) ∨ (0xFEA0 ≤ a.toNat ∧ a.toNat < 0xFEFF) ∨
      a = 0xFF46 ∨ storesInPlace a := by
  by_cases hdma : a = 0xFF46
  · exact .inr (.inr (.inr (.inl hdma)))
  · simp only [storesInPlace, hdma, ne_eq, not_false_eq_true, and_true]
    omega

/-- What a bus write that stores in place stores. -/
def storedByte (a : Word) (v : Byte) : Byte := if a = 0xFF04 ∨ a = 0xFF44 then 0 else v

/-- A bus write that stores in place does nothing else that a bus read sees. -/
theorem readByte_writeByte_inPlace (s : State) {a : Word} (v : Byte) (x : Word) (h : storesInPlace a) :
    (s.writeByte a v).readByte x = (s.storeCell a (storedByte a v)).readByte x := by
  obtain ⟨hrom, hecho, hrestricted, hdma⟩ := h
  by_cases hclear : a = 0xFF04 ∨ a = 0xFF44
  · rw [writeByte_cleared s v hclear, storedByte, if_pos hclear]
  rw [storedByte, if_neg hclear]
  by_cases htimer : a = 0xFF07
  · rw [htimer, writeByte_timerControl, State.readByte_writeTimerControl]
  · obtain ⟨hdiv, hly⟩ := not_or.1 hclear
    rw [s.writeByte_plain v hrom (by omega) (by omega) hdiv hly hdma htimer]

theorem writeTouches_rom {a : Word} (x : Word) (h : a.toNat < 0x8000) : writeTouches a x = State.delegated x :=
  if_pos h

theorem writeTouches_echo {a : Word} (x : Word) (h : 0xE000 ≤ a.toNat ∧ a.toNat < 0xFE00) :
    writeTouches a x = decide (x = a ∨ x = a - 0x2000) := by
  unfold writeTouches
  rw [if_neg (by omega), if_pos h]

theorem writeTouches_dma (x : Word) :
    writeTouches 0xFF46 x = decide (0xFE00 ≤ x.toNat ∧ x.toNat < 0xFEA0) := rfl

theorem writeTouches_inPlace {a : Word} (x : Word) (h : storesInPlace a) :
    writeTouches a x = (decide (x = a) && !State.delegated a) := by
  obtain ⟨hrom, hecho, hrestricted, hdma⟩ := h
  unfold writeTouches
  rw [if_neg (by omega), if_neg hecho, if_neg hrestricted, if_neg hdma]

/-- R70 with R67, row by row: a bus read at an address a bus write does not touch is as before. -/
theorem readByte_writeByte_untouched (s : State) {a x : Word} (v : Byte) (h : writeTouches a x = false) :
    (s.writeByte a v).readByte x = s.readByte x := by
  rcases busRow_cases a with hrom | hecho | hrestricted | rfl | hplace
  · rw [writeTouches_rom x hrom] at h
    rw [writeByte_rom s v hrom, s.readByte_bankWrite a v h]
  · rw [writeTouches_echo x hecho, decide_eq_false_iff_not, not_or] at h
    obtain ⟨hself, hmirror⟩ := h
    rw [s.writeByte_echo v hecho, State.readByte_storeCell, if_neg fun e => hmirror e.1, State.readByte_storeCell,
      if_neg fun e => hself e.1]
  · rw [writeByte_restricted s v hrestricted]
  · rw [writeTouches_dma, decide_eq_false_iff_not] at h
    exact State.readByte_dmaCopy_outside _ le_rfl s (by omega)
  · rw [writeTouches_inPlace x hplace] at h
    rw [readByte_writeByte_inPlace s v x hplace, State.readByte_storeCell, if_neg]
    rintro ⟨hx, hd⟩
    simp [hx, hd] at h

/-- Settles O50: the reads by `readByte_writeByte_untouched`, the other fields by `State.writeByte_eq`. -/
theorem busWriteFrame : Obligations.BusWriteFrame :=
  fun s a v => ⟨fun _ => readByte_writeByte_untouched s v, s.writeByte_eq a v⟩

/-! ### The stack -/

/-- A plain cell is of row 2, or a bus write there stores in place; row 7 stores its byte too. -/
theorem plainCell_cases {a : Word} (h : plainCell a) :
    (0xE000 ≤ a.toNat ∧ a.toNat < 0xFE00) ∨ (storesInPlace a ∧ ∀ v, storedByte a v = v) := by
  obtain ⟨hrom, -, hrestricted, hdiv, hly, hdma⟩ := h
  by_cases hecho : 0xE000 ≤ a.toNat ∧ a.toNat < 0xFE00
  · exact .inl hecho
  · exact .inr ⟨⟨hrom, hecho, by omega, hdma⟩, fun _ => if_neg (not_or.2 ⟨hdiv, hly⟩)⟩

theorem readByte_writeByte_plainCell (s : State) {a : Word} (v : Byte) (h : plainCell a) :
    (s.writeByte a v).readByte a = v := by
  have hd : State.delegated a = false := h.2.1
  rcases plainCell_cases h with hecho | ⟨hplace, hstored⟩
  · rw [State.readByte_of_not_delegated _ hd, cell_writeByte_echo s a v hecho, if_pos (.inl rfl)]
  · rw [readByte_writeByte_inPlace s v a hplace, State.readByte_storeCell, if_pos ⟨rfl, hd⟩, hstored]

theorem writeTouches_succ_of_plainCell {a : Word} (h : plainCell a) : writeTouches a (a + 1) = false := by
  have hne : a + 1 ≠ a := by bv_omega
  rcases plainCell_cases h with hecho | ⟨hplace, -⟩
  · have hmirror : a + 1 ≠ a - 0x2000 := by bv_omega
    rw [writeTouches_echo _ hecho, decide_eq_false_iff_not, not_or]
    exact ⟨hne, hmirror⟩
  · rw [writeTouches_inPlace _ hplace, decide_eq_false hne, Bool.false_and]

/-- The word a push leaves on top of the stack, as two bus reads after its two bus writes. -/
theorem stackTop_stackPush (s : State) (w : Word) :
    (s.stackPush w).stackTop =
      ((s.writeByte (s.sp - 1) (hiByte w)).writeByte (s.sp - 2) (loByte w)).readWord (s.sp - 2) := by
  rw [State.stackPush_eq]
  rfl

/-- Settles O55: the low byte is the last written, and writing it does not touch the cell of the high byte. -/
theorem stackRoundTrip : Obligations.StackRoundTrip := by
  intro s w
  have hsucc : s.sp - 2 + 1 = s.sp - 1 := by bv_omega
  refine ⟨?_, fun hhigh hlow => ?_⟩
  · rw [State.stackDrop_sp, State.stackPush_sp]
    bv_omega
  · have huntouched : writeTouches (s.sp - 2) (s.sp - 1) = false := hsucc ▸ writeTouches_succ_of_plainCell hlow
    rw [stackTop_stackPush, State.readWord, hsucc, readByte_writeByte_untouched _ _ huntouched,
      readByte_writeByte_plainCell _ _ hhigh, readByte_writeByte_plainCell _ _ hlow, word_hiByte_loByte]

end Sys2Proof.Proofs

/-! PROOFS of the family 30_encoding.md: encoding and decoding are inverse. From an instruction to its bytes and back
splits on the constructors (`decode_encode`); from bytes to an instruction and back splits on the entries of the opcode
map (`mainTable_yields`), and what reading an entry's operands gives is said once (`Entry.encode_of_read`). -/

namespace Sys2Proof

open Sys2Proof.Machine

/-- What an entry builds from a byte operand `n` or a word operand `w`, with the operand bytes, low byte first (R126). -/
def Entry.built : Entry → Byte → Word → Instr × List Byte
  | .plain i, _, _ => (i, [])
  | .imm8 build, n, _ => (build n, [n])
  | .imm16 build, _, w => (build w, [loByte w, hiByte w])

/-- Whatever its operand, the entry builds a well-formed instruction whose bytes are `op` and the operand's. -/
def Entry.Yields (e : Entry) (op : Byte) : Prop :=
  ∀ n w, encode (e.built n w).1 = op :: (e.built n w).2 ∧ (e.built n w).1.wf = true

/-- What an entry reads is built from some operand, whose bytes are the ones taken. -/
theorem Entry.built_of_read {e : Entry} {op : Byte} {bytes rest : List Byte} {i : Instr}
    (h : e.read op bytes = .ok (i, rest)) : ∃ n w, (e.built n w).1 = i ∧ (e.built n w).2 ++ rest = bytes := by
  unfold Entry.read at h
  split at h
  case h_1 => cases h; exact ⟨0, 0, rfl, rfl⟩
  case h_2 _ b1 _ => cases h; exact ⟨b1, 0, rfl, rfl⟩
  case h_3 _ b1 b2 _ => cases h; exact ⟨0, word b2 b1, rfl, by simp [Entry.built]⟩
  all_goals cases h

/-- Reading an entry's operands takes exactly the bytes the instruction's encoding has after the first. -/
theorem Entry.encode_of_read {e : Entry} {op : Byte} {bytes rest : List Byte} {i : Instr} (he : e.Yields op)
    (h : e.read op bytes = .ok (i, rest)) : encode i ++ rest = op :: bytes ∧ i.wf = true := by
  obtain ⟨n, w, rfl, rfl⟩ := Entry.built_of_read h
  obtain ⟨henc, hwf⟩ := he n w
  exact ⟨congrArg (· ++ rest) henc, hwf⟩

end Sys2Proof

namespace Sys2Proof.Proofs

open Sys2Proof.Machine Sys2Proof.Laws

/-! ### From an instruction to its bytes and back -/

/-- Only a 16-bit operand, cut in two and put together (R126), and the bytes `unassigned` may carry (R132) need an
argument; for every other instruction the opcode map computes the answer. -/
theorem decode_encode (i : Instr) : Encoding.Statement i := by
  cases i with
  | ldBcD16 w => exact Encoding.ldBcD16 w
  | ldDeD16 w => exact Encoding.ldDeD16 w
  | ldHlD16 w => exact Encoding.ldHlD16 w
  | ldSpD16 w => exact Encoding.ldSpD16 w
  | ldMemA16Sp w => exact Encoding.ldMemA16Sp w
  | ldMemA16A w => exact Encoding.ldMemA16A w
  | ldAMemA16 w => exact Encoding.ldAMemA16 w
  | jpA16 w => exact Encoding.jpA16 w
  | jpNzA16 w => exact Encoding.jpNzA16 w
  | jpZA16 w => exact Encoding.jpZA16 w
  | jpNcA16 w => exact Encoding.jpNcA16 w
  | jpCA16 w => exact Encoding.jpCA16 w
  | callA16 w => exact Encoding.callA16 w
  | callNzA16 w => exact Encoding.callNzA16 w
  | callZA16 w => exact Encoding.callZA16 w
  | callNcA16 w => exact Encoding.callNcA16 w
  | callCA16 w => exact Encoding.callCA16 w
  | unassigned op => exact Encoding.unassigned op
  | _ => exact fun _ _ => rfl

/-- Settles O1, by `decode_encode`. -/
theorem decodeOfEncodeGivesInstructionBack : Obligations.DecodeOfEncodeGivesInstructionBack :=
  fun i rest h => decode_encode i h rest

/-! ### From bytes to an instruction and back -/

theorem wf_cbTable : ∀ op2 : Byte, (cbTable op2).wf = true := by decide

/-- R128: every entry of the opcode map; the one of 0xCB is the extended table (R130). -/
theorem mainTable_yields (op : Byte) : (mainTable op).Yields op := by
  have h : ∀ k < 256, (mainTable (BitVec.ofNat 8 k)).Yields (BitVec.ofNat 8 k) := by
    intro k hk
    rcases Nat.lt_trichotomy k 0xCB with hbelow | rfl | habove
    · interval_cases k <;> exact fun _ _ => ⟨rfl, rfl⟩
    · exact fun n _ => ⟨encode_cbTable n, wf_cbTable n⟩
    · interval_cases k <;> exact fun _ _ => ⟨rfl, rfl⟩
  have hop := h op.toNat op.isLt
  rwa [BitVec.ofNat_toNat, BitVec.setWidth_eq] at hop

/-- Settles O2: the bytes by the table; they decode to the canonical instruction too (`decode_encode`), and decoding
gives one answer. -/
theorem encodeOfDecodeGivesBytesBack : Obligations.EncodeOfDecodeGivesBytesBack := by
  intro bytes rest i h
  cases bytes with
  | nil => cases h
  | cons op operands =>
    obtain ⟨hbytes, hwf⟩ := Entry.encode_of_read (mainTable_yields op) h
    have hcanonical : decode (op :: operands) = .ok (i.canonical, rest) := hbytes ▸ decode_encode i hwf rest
    exact ⟨hbytes, hwf, congrArg Prod.fst (Except.ok.inj (hcanonical.symm.trans h))⟩

/-! ### Words written out, and the unassigned bytes -/

/-- Settles O3: the decoder computes each. -/
theorem writtenOutWordsDecode : Obligations.WrittenOutWordsDecode :=
  ⟨rfl, rfl, rfl, rfl, rfl, rfl, rfl, rfl, rfl, rfl, rfl⟩

/-- R510 against R132: the bytes the cost table gives 0. -/
theorem baseCost_eq_zero_iff : ∀ op : Byte, baseCost op = 0 ↔ op ∈ unassignedOpcodes := by
  decide

theorem decodeAt_of_mem_unassignedOpcodes {op : Byte} (h : op ∈ unassignedOpcodes) (b1 b2 : Byte) :
    decodeAt op b1 b2 = .unassigned op := by
  obtain ⟨rest, hthree⟩ := decode_three op b1 b2
  have hwf : (Instr.unassigned op).wf = true := List.contains_iff_mem.2 h
  have hlist : decode [op, b1, b2] = .ok (.unassigned op, [b1, b2]) := decode_encode _ hwf [b1, b2]
  exact congrArg Prod.fst (Except.ok.inj (hthree.symm.trans hlist))

/-- Settles O4: the eleven bytes by the cost table, and what they decode to by `decodeAt_of_mem_unassignedOpcodes`. -/
theorem unassignedBytesAreTheElevenOfCostZero : Obligations.UnassignedBytesAreTheElevenOfCostZero :=
  fun op => ⟨baseCost_eq_zero_iff op, fun h =>
    ⟨decodeAt_of_mem_unassignedOpcodes ((baseCost_eq_zero_iff op).1 h), fun _ => rfl⟩⟩

end Sys2Proof.Proofs

/-! PROOFS of the family 40_dispatch.md: Compare, one step, and the deferred interrupt protocol. The instruction a
Dispatch call runs is known by its first byte (`opcode_decodeAt`), so what its handler does to the interrupt state is said
by that byte (`exec_decodeAt_interruptState`); the check after it is `deferredCheck_eq`. -/

namespace Sys2Proof.Proofs

open Sys2Proof.Machine Sys2Proof.Laws Sys2Proof.Statements

/-! ### The deferred interrupt protocol -/

theorem decodeAt_eq_built (op b1 b2 : Byte) : decodeAt op b1 b2 = ((mainTable op).built b1 (word b2 b1)).1 := by
  show (mainTable op).instr b1 b2 = _
  cases mainTable op <;> rfl

/-- R169: the first byte of the instruction decoded is the byte it was decoded from. -/
theorem opcode_decodeAt (op b1 b2 : Byte) : (decodeAt op b1 b2).opcode = op := by
  rw [decodeAt_eq_built, Instr.opcode, (mainTable_yields op b1 (word b2 b1)).1]
  rfl

theorem decodeAt_ne {i : Instr} {op : Byte} (h : op ≠ i.opcode) (b1 b2 : Byte) : decodeAt op b1 b2 ≠ i :=
  fun hi => h (hi ▸ (opcode_decodeAt op b1 b2).symm)

/-- What the handler does to the interrupt state, by the first byte: DI (R413), EI (R414) and RETI (R388) write their
own bit, every other keeps all three. -/
theorem exec_decodeAt_interruptState {op b1 b2 : Byte} {s t : State} (h : exec (decodeAt op b1 b2) s = .next t) :
    t.pendingDisable = (s.pendingDisable || decide (op = Config.opDI)) ∧
    t.pendingEnable = (s.pendingEnable || decide (op = Config.opEI)) ∧
    t.ime = if op = 0xD9 then true else s.ime := by
  by_cases hdi : op = 0xF3
  · subst hdi
    cases h
    exact ⟨(Bool.or_true _).symm, (Bool.or_false _).symm, rfl⟩
  by_cases hei : op = 0xFB
  · subst hei
    cases h
    exact ⟨(Bool.or_false _).symm, (Bool.or_true _).symm, rfl⟩
  by_cases hreti : op = 0xD9
  · subst hreti
    cases h
    exact ⟨(Bool.or_false _).symm, (Bool.or_false _).symm, rfl⟩
  obtain ⟨hime, hdisable, henable, -⟩ := instructionSystemFrame _ _ _ h
  rw [hime (decodeAt_ne hreti b1 b2), hdisable (decodeAt_ne hdi b1 b2), henable (decodeAt_ne hei b1 b2)]
  rw [if_neg hreti, decide_eq_false (p := op = Config.opDI) hdi, decide_eq_false (p := op = Config.opEI) hei,
    Bool.or_false, Bool.or_false]
  exact ⟨rfl, rfl, rfl⟩

/-- Setting a pending flag at its own byte and clearing it at every other leaves it set exactly after its own byte, and
the check clears it exactly where it was set before and the byte is another (R167, R168). -/
theorem set_at_own_clear_at_other : ∀ pending own : Bool,
    ((pending || own) && own) = own ∧ ((pending || own) && !own) = (pending && !own) := by
  decide

/-- Settles O42: the handler writes its own bit, known by the first byte, and the check follows. -/
theorem deferredInterruptProtocol : Obligations.DeferredInterruptProtocol := by
  intro s t h
  obtain ⟨u, hu, rfl⟩ := dispatch_cases h
  obtain ⟨hdisable, henable, hime⟩ := exec_decodeAt_interruptState hu
  simp only [State.finish, deferredCheck_eq, hdisable, henable, hime, set_at_own_clear_at_other,
    State.pastInstr_pendingDisable, State.pastInstr_pendingEnable, State.pastInstr_ime,
    Bool.and_eq_true, Bool.not_eq_true', decide_eq_false_iff_not]
  exact ⟨rfl, rfl, rfl⟩

/-! ### Compare -/

theorem packFlags_toNat : ∀ z n h c : Bool, (packFlags z n h c).toNat =
    (if z then 0x80 else 0) + (if n then 0x40 else 0) + (if h then 0x20 else 0) + (if c then 0x10 else 0) := by
  decide

/-- Settles O20: the flags by `compare_eq`, and F by packing them. -/
theorem compareSetsFlagsFromThePair : Obligations.CompareSetsFlagsFromThePair := by
  intro s x y
  have hflags := State.compare_eq s x y
  rw [beq_eq_decide] at hflags
  refine ⟨hflags, ?_⟩
  rw [hflags, f_eq_packFlags, packFlags_toNat]
  simp only [decide_eq_true_eq, if_true]

/-! ### One step -/

theorem wakeFromHalt_of_not_halted {s : State} (h : s.halted = false) : s.wakeFromHalt = s := by
  simp [State.wakeFromHalt, h]

/-- R470: lifting the latch of a core that is not halted changes nothing, so only the request counts. -/
theorem wakeFromHalt_eq (s : State) :
    s.wakeFromHalt = if requested s ≠ 0 then { s with halted := false } else s := by
  cases h : s.halted with
  | false =>
    rw [wakeFromHalt_of_not_halted h, ← h, ite_self]
  | true =>
    rw [State.wakeFromHalt, h, Bool.true_and]
    simp only [decide_eq_true_eq]
    rfl

/-- A quiet boundary (log 6) of a core that is not halted. -/
theorem afterHost_of_host_nil {s : State} (hhost : s.host = []) (hrun : s.halted = false) : s.afterHost = s := by
  have hsame : ({ s with host := s.host.tail } : State) = s := by rw [hhost, List.tail_nil, ← hhost]
  rw [State.afterHost, hsame, State.nextBoundary, hhost]
  exact wakeFromHalt_of_not_halted hrun

/-- R455: a listed boundary is consumed, its writes made, then the interrupt served, then the core woken. -/
theorem afterHost_of_host_cons {s : State} {bd : Boundary} {later : List Boundary} (h : s.host = bd :: later) :
    s.afterHost =
      let written := bd.writes.foldl State.hostWrite { s with host := later }
      let served := if bd.service then written.serviceInterrupt else written
      if bd.wake = true ∧ requested served ≠ 0 then { served with halted := false } else served := by
  simp only [State.afterHost, State.nextBoundary, h, List.tail_cons, List.headD_cons, State.atBoundary, wakeFromHalt_eq,
    ite_and]

theorem step_of_not_halted {s : State} (h : s.afterHost.halted = false) : step s = dispatch s.afterHost := by
  rw [step, boundaryThenDispatch, h]
  rfl

/-- The fetch moves PC past as many bytes as the decoder takes (R161 to R165). -/
theorem fetch_of_decode {s : State} {i : Instr} {rest : List Byte} (h : decode s.fetchBytes = .ok (i, rest)) :
    s.fetchInstr = i ∧ i.length = 3 - rest.length := by
  obtain ⟨rest', hthree⟩ := decode_three (s.readByte s.pc) (s.readByte (s.pc + 1)) (s.readByte (s.pc + 2))
  obtain ⟨hinstr, -⟩ := Prod.mk.inj (Except.ok.inj (hthree.symm.trans h))
  have hlength : (encode i).length + rest.length = 3 := by
    rw [← List.length_append, (encodeOfDecodeGivesBytesBack _ _ _ h).1]
    rfl
  exact ⟨hinstr, Nat.eq_sub_of_add_eq hlength⟩

/-- Settles O40: the host's part in its two cases, then the fetch. -/
theorem stepRunsTheDecodedInstruction : Obligations.StepRunsTheDecodedInstruction := by
  intro s i rest u
  refine ⟨afterHost_of_host_nil, fun bd later => afterHost_of_host_cons, fun hrun hdecode => ?_⟩
  obtain ⟨rfl, hlength⟩ := fetch_of_decode hdecode
  rw [step_of_not_halted hrun, ← hlength]
  rfl

end Sys2Proof.Proofs

/-! PROOFS of the family 41_load8.md: the 8-bit loads, and the two frames over every instruction, of the bus reads and of
the condition flags. What a form of meaning leaves alone is said once for both frames (`run_frame`); which bytes are a form,
and at what cost, is said once for each kind of load (`HasForm`). -/

namespace Sys2Proof.Laws

open Sys2Proof.Machine

/-- The addresses a write of an operand writes through the bus (R122). -/
def operandStores (s : State) : Operand8 → List Word
  | .reg _ => []
  | .memHl => [s.hl]

/-- The addresses a push writes through the bus (R82). -/
def pushStores (s : State) : List Word := [s.sp - 1, s.sp - 1 - 1]

/-- `storesTo` on the forms. -/
def Action.storesTo (s : State) : Action → List Word
  | .storeReg _ m => [m.addr s]
  | .storeImm _ | .storeAStep _ => [s.hl]
  | .storeSp w => [w, w + 1]
  | .push _ => pushStores s
  | .inc8 x | .dec8 x | .rotateAt _ x | .bitReset _ x | .bitSet _ x => operandStores s x
  | .extended op2 => if op2.toNat / 64 = 1 then [] else operandStores s (operandOf (fieldZ op2))
  | .call cc _ => if cc.all s.holds then pushStores s else []
  | _ => []

/-- `keepsFlags` on the forms. -/
def Action.keepsFlags : Action → Bool
  | .pop .af | .unassigned _ | .loadHlSp _ | .alu .. | .inc8 _ | .dec8 _ | .daa | .cpl | .scf | .ccf | .addHl _ | .addSp _
  | .rotateA _ | .rotateAt .. | .bitTest .. => false
  | .extended op2 => decide (2 ≤ op2.toNat / 64)
  | _ => true

theorem operandStores_operandOf (s : State) (z : Nat) :
    operandStores s (operandOf z) = if z = 6 then [s.hl] else [] := by
  unfold operandOf
  split
  case h_8 h => exact (if_neg h).symm
  all_goals rfl

theorem storesTo_eq (i : Instr) (s : State) : storesTo i s = (action i).storesTo s := by
  cases i with
  | prefixCb op2 =>
    show (if fieldZ op2 = 6 ∧ op2.toNat / 64 ≠ 1 then [s.hl] else []) =
      if op2.toNat / 64 = 1 then [] else operandStores s (operandOf (fieldZ op2))
    rw [operandStores_operandOf]
    by_cases hbit : op2.toNat / 64 = 1 <;> simp [hbit]
  | _ => rfl

theorem keepsFlags_eq (i : Instr) : keepsFlags i = (action i).keepsFlags := by
  cases i <;> rfl

theorem onCond_eq (cc : Option Cond) (f : State → State) (s : State) :
    onCond cc f s = if cc.all s.holds then f s else s := by
  cases cc <;> rfl

end Sys2Proof.Laws

namespace Sys2Proof.Proofs

open Sys2Proof.Machine Sys2Proof.Laws Sys2Proof.Statements

/-! ### The bus reads and the flags a form leaves alone -/

/-- The four condition flags are the same. -/
def SameFlags (s t : State) : Prop :=
  t.zero = s.zero ∧ t.sub = s.sub ∧ t.halfCarry = s.halfCarry ∧ t.carry = s.carry

/-- What a handler leaves alone that writes through the bus at the addresses `stores` only, and no flag where `keeps`. -/
structure Frame (stores : List Word) (keeps : Bool) (s t : State) : Prop where
  reads : ∀ x, (∀ a ∈ stores, writeTouches a x = false) → t.readByte x = s.readByte x
  flags : keeps = true → SameFlags s t

section Frame

variable {stores : List Word} {keeps : Bool} {s t u : State}

/-- No bus write and no flag write. -/
theorem Frame.of_registers (hmem : t.mem = s.mem := by rfl) (hcart : t.cart = s.cart := by rfl)
    (hflags : SameFlags s t := by exact ⟨rfl, rfl, rfl, rfl⟩) : Frame stores keeps s t :=
  ⟨fun x _ => State.readByte_congr hmem hcart x, fun _ => hflags⟩

/-- No bus write; the flags may be written. -/
theorem Frame.of_flags (hmem : t.mem = s.mem := by rfl) (hcart : t.cart = s.cart := by rfl) : Frame stores false s t :=
  ⟨fun x _ => State.readByte_congr hmem hcart x, nofun⟩

theorem Frame.trans (h₁ : Frame stores keeps s t) (h₂ : Frame stores keeps t u) : Frame stores keeps s u := by
  refine ⟨fun x hx => (h₂.reads x hx).trans (h₁.reads x hx), fun hk => ?_⟩
  obtain ⟨hz₁, hn₁, hh₁, hc₁⟩ := h₁.flags hk
  obtain ⟨hz₂, hn₂, hh₂, hc₂⟩ := h₂.flags hk
  exact ⟨hz₂.trans hz₁, hn₂.trans hn₁, hh₂.trans hh₁, hc₂.trans hc₁⟩

theorem Frame.of_next (h : (.next u : Out) = .next t) (hu : Frame stores keeps s u) : Frame stores keeps s t := by
  cases h
  exact hu

theorem frame_writeByte (s : State) {a : Word} (v : Byte) (ha : a ∈ stores) : Frame stores keeps s (s.writeByte a v) :=
  ⟨fun _ hx => readByte_writeByte_untouched s v (hx a ha), fun _ => ⟨by simp, by simp, by simp, by simp⟩⟩

theorem frame_setReg (s : State) (r : Reg8) (v : Byte) : Frame stores keeps s (s.setReg r v) :=
  .of_registers (by simp) (by simp) ⟨by simp, by simp, by simp, by simp⟩

theorem frame_setReg16 (s : State) (p : Reg16) (w : Word) : Frame stores keeps s (s.setReg16 p w) :=
  .of_registers (by simp) (by simp) ⟨by simp, by simp, by simp, by simp⟩

theorem frame_setOperand (s : State) (x : Operand8) (v : Byte) :
    Frame (operandStores s x) keeps s (s.setOperand x v) := by
  cases x with
  | reg r => exact frame_setReg s r v
  | memHl => exact frame_writeByte s v (List.mem_singleton_self _)

/-- An operand written, then the flags: INC, DEC and the rotates. -/
theorem frame_setOperand_setFlags (s : State) (x : Operand8) (v : Byte) (z n hc cy : Bool) :
    Frame (operandStores s x) false s ((s.setOperand x v).setFlags z n hc cy) :=
  (frame_setOperand s x v).trans .of_flags

theorem frame_storeAStep (k : Word) (s : State) : Frame [s.hl] keeps s (Machine.storeAStep k s) :=
  (frame_writeByte s s.a (List.mem_singleton_self _)).trans .of_registers

theorem frame_writeWord (s : State) (a w : Word) : Frame [a, a + 1] keeps s (s.writeWord a w) :=
  (frame_writeByte s _ (by simp)).trans (frame_writeByte _ _ (by simp))

theorem frame_pushByte (s : State) (v : Byte) (ha : s.sp - 1 ∈ stores) : Frame stores keeps s (s.pushByte v) :=
  (Frame.of_registers : Frame stores keeps s { s with sp := s.sp - 1 }).trans (frame_writeByte _ v ha)

theorem frame_stackPush (s : State) (w : Word) : Frame (pushStores s) keeps s (s.stackPush w) :=
  (frame_pushByte s _ (by simp [pushStores])).trans (frame_pushByte _ _ (by simp [pushStores]))

/-- POP AF alone writes the flags (R247). -/
theorem frame_popReg (p : StackReg) (s : State) : Frame stores (Action.pop p).keepsFlags s (popReg p s) := by
  cases p with
  | af => exact .of_flags
  | bc | de | hl => exact .of_registers

theorem frame_alu (o : Alu) (v : Byte) (s : State) : Frame stores false s (o.run v s) := by
  cases o <;> exact .of_flags

theorem frame_onCond {f : State → State} (cc : Option Cond) (s : State)
    (h : cc.all s.holds = true → Frame stores keeps s (f s)) : Frame stores keeps s (onCond cc f s) := by
  rw [onCond_eq]
  split
  case isTrue hcc => exact h hcc
  case isFalse => exact .of_registers

/-- Only the call taken pushes (R387). -/
theorem frame_call (cc : Option Cond) (w : Word) (s : State) :
    Frame ((Action.call cc w).storesTo s) keeps s (onCond cc (callTo w) s) := by
  refine frame_onCond cc s fun hcc => ?_
  rw [Action.storesTo, if_pos hcc]
  exact (frame_stackPush s s.pc).trans .of_registers

end Frame

/-- The extended table by the two top bits of the second byte (R130): rotates, BIT, RES, SET. -/
theorem frame_runExtended (op2 : Byte) (s : State) :
    Frame (if op2.toNat / 64 = 1 then [] else operandStores s (operandOf (fieldZ op2))) (decide (2 ≤ op2.toNat / 64)) s
      (runExtended op2 s) := by
  unfold runExtended
  match op2.toNat / 64 with
  | 0 => exact frame_setOperand_setFlags s ..
  | 1 => exact .of_flags
  | 2 => exact frame_setOperand s ..
  | n + 3 =>
    rw [if_neg (by omega)]
    exact frame_setOperand s ..

/-- What each form leaves alone. -/
theorem run_frame {act : Action} {s t : State} (h : act.run s = .next t) :
    Frame (act.storesTo s) act.keepsFlags s t := by
  cases act with
  | unassigned op => cases h
  | loadReg dst src => exact .of_next h (frame_setReg ..)
  | loadFrom dst m => exact .of_next h (frame_setReg ..)
  | loadImm r n => exact .of_next h (frame_setReg ..)
  | loadImm16 p w => exact .of_next h (frame_setReg16 ..)
  | step16 p k => exact .of_next h (frame_setReg16 ..)
  | storeReg r m => exact .of_next h (frame_writeByte s _ (List.mem_singleton_self _))
  | storeImm n => exact .of_next h (frame_writeByte s _ (List.mem_singleton_self _))
  | storeAStep k => exact .of_next h (frame_storeAStep ..)
  | storeSp w => exact .of_next h (frame_writeWord ..)
  | push p => exact .of_next h (frame_stackPush ..)
  | pop p => exact .of_next h (frame_popReg ..)
  | alu o x => exact .of_next h (frame_alu ..)
  | inc8 x => exact .of_next h (frame_setOperand_setFlags s x ..)
  | dec8 x => exact .of_next h (frame_setOperand_setFlags s x ..)
  | rotateAt rot x => exact .of_next h (frame_setOperand_setFlags s x ..)
  | bitReset b x => exact .of_next h (frame_setOperand s x _)
  | bitSet b x => exact .of_next h (frame_setOperand s x _)
  | extended op2 => exact .of_next h (frame_runExtended op2 s)
  | call cc w => exact .of_next h (frame_call cc w s)
  | jump cc w => exact .of_next h (frame_onCond cc s fun _ => .of_registers)
  | jumpRel cc e => exact .of_next h (frame_onCond cc s fun _ => .of_registers)
  | ret cc => exact .of_next h (frame_onCond cc s fun _ => .of_registers)
  | nop | stop | halt | di | ei | loadAStep | loadSpHl | jumpHl | reti => exact .of_next h .of_registers
  | loadHlSp | daa | cpl | scf | ccf | addHl | addSp | rotateA | bitTest => exact .of_next h .of_flags

/-- `run_frame` for the instructions themselves. -/
theorem exec_frame {i : Instr} {s t : State} (h : exec i s = .next t) :
    Frame (storesTo i s) (keepsFlags i) s t := by
  rw [exec_eq_run] at h
  rw [storesTo_eq, keepsFlags_eq]
  exact run_frame h

/-- Settles O51: the reads of `exec_frame`. -/
theorem instructionMemoryFrame : Obligations.InstructionMemoryFrame :=
  fun _ _ _ x h hx => (exec_frame h).reads x hx

/-- Settles O52: the flags of `exec_frame`. -/
theorem instructionFlagFrame : Obligations.InstructionFlagFrame :=
  fun _ _ _ hkeeps h => (exec_frame h).flags hkeeps

/-! ### Which bytes are a form, and at what cost -/

/-- The bytes are exactly one instruction, its meaning is of form `act`, and Dispatch returns `cost s` for it. -/
def HasForm (bytes : List Byte) (act : Action) (cost : State → Nat) : Prop :=
  ∃ i : Instr, decode bytes = .ok (i, []) ∧ action i = act ∧ ∀ s : State, dispatchCost i s = cost s

/-- An instruction that never costs more than the base cost of its opcode byte (R163). Its first byte is the one it was
decoded from. -/
theorem hasForm_of_baseCost {op : Byte} {operands : List Byte} {i : Instr} {act : Action} {m : Nat}
    (hdecode : decode (op :: operands) = .ok (i, [])) (hact : action i = act) (hbase : baseCost op = m)
    (hextra : ∀ op2 s, extraCost op op2 s = 0) : HasForm (op :: operands) act fun _ => m := by
  have hopcode : i.opcode = op := by
    rw [Instr.opcode, ← List.append_nil (encode i), (encodeOfDecodeGivesBytesBack _ _ _ hdecode).1]
    rfl
  exact ⟨i, hdecode, hact, fun s => dispatchCost_eq (hopcode ▸ hbase) (hopcode ▸ hextra _ s)⟩

/-- Bytes of a known form execute as the form runs. -/
theorem HasForm.executes {bytes : List Byte} {act : Action} {cost : State → Nat} {f : State → State}
    (h : HasForm bytes act cost) (hrun : ∀ s, act.run s = .next (f s)) : Executes bytes f cost := by
  obtain ⟨i, hdecode, rfl, hcost⟩ := h
  exact ⟨i, hdecode, fun s => ⟨(exec_eq_run i s).trans (hrun s), hcost s⟩⟩

/-! ### The 8-bit loads -/

theorem hasForm_loadReg (dst src : Reg8) :
    HasForm [opByte 1 (regCode dst) (regCode src)] (.loadReg dst src) fun _ => 4 := by
  cases dst <;> cases src <;> exact hasForm_of_baseCost rfl rfl rfl fun _ _ => rfl

/-- Settles O6: by the two register fields (R122). -/
theorem loadRegisterFromRegister : Obligations.LoadRegisterFromRegister :=
  fun dst src => (hasForm_loadReg dst src).executes fun _ => rfl

theorem hasForm_loadFromHl (r : Reg8) : HasForm [opByte 1 (regCode r) 6] (.loadFrom r .hl) fun _ => 8 := by
  cases r <;> exact hasForm_of_baseCost rfl rfl rfl fun _ _ => rfl

theorem hasForm_storeRegAtHl (r : Reg8) : HasForm [opByte 1 6 (regCode r)] (.storeReg r .hl) fun _ => 8 := by
  cases r <;> exact hasForm_of_baseCost rfl rfl rfl fun _ _ => rfl

/-- Settles O7: by the register field; 6 in its place is (HL). -/
theorem loadAndStoreAtHl : Obligations.LoadAndStoreAtHl :=
  fun r => ⟨(hasForm_loadFromHl r).executes fun _ => rfl, (hasForm_storeRegAtHl r).executes fun _ => rfl⟩

theorem hasForm_loadImm (r : Reg8) (n : Byte) : HasForm [opByte 0 (regCode r) 6, n] (.loadImm r n) fun _ => 8 := by
  cases r <;> exact hasForm_of_baseCost rfl rfl rfl fun _ _ => rfl

theorem hasForm_storeImm (n : Byte) : HasForm [0x36, n] (.storeImm n) fun _ => 12 :=
  hasForm_of_baseCost rfl rfl rfl fun _ _ => rfl

/-- Settles O8: by the register field, the immediate free. -/
theorem loadByteImmediate : Obligations.LoadByteImmediate :=
  fun n => ⟨fun r => (hasForm_loadImm r n).executes fun _ => rfl, (hasForm_storeImm n).executes fun _ => rfl⟩

/-- Settles O9: by the six opcode bytes. -/
theorem loadAndStoreAThroughAddress : Obligations.LoadAndStoreAThroughAddress := by
  have hloadBc : HasForm [0x0A] (.loadFrom .a .bc) fun _ => 8 := hasForm_of_baseCost rfl rfl rfl fun _ _ => rfl
  have hloadDe : HasForm [0x1A] (.loadFrom .a .de) fun _ => 8 := hasForm_of_baseCost rfl rfl rfl fun _ _ => rfl
  have hstoreBc : HasForm [0x02] (.storeReg .a .bc) fun _ => 8 := hasForm_of_baseCost rfl rfl rfl fun _ _ => rfl
  have hstoreDe : HasForm [0x12] (.storeReg .a .de) fun _ => 8 := hasForm_of_baseCost rfl rfl rfl fun _ _ => rfl
  refine ⟨hloadBc.executes fun _ => rfl, hloadDe.executes fun _ => rfl, hstoreBc.executes fun _ => rfl,
    hstoreDe.executes fun _ => rfl, fun lo hi => ?_⟩
  have hload : HasForm [0xFA, lo, hi] (.loadFrom .a (.abs (word hi lo))) fun _ => 16 :=
    hasForm_of_baseCost rfl rfl rfl fun _ _ => rfl
  have hstore : HasForm [0xEA, lo, hi] (.storeReg .a (.abs (word hi lo))) fun _ => 16 :=
    hasForm_of_baseCost rfl rfl rfl fun _ _ => rfl
  exact ⟨hload.executes fun _ => rfl, hstore.executes fun _ => rfl⟩

/-- An address of page 0xFF, as a byte added to its first address (R126). -/
theorem pageFF_eq (n : Byte) : pageFF n = 0xFF00 + n.zeroExtend 16 := by
  have h : (0xFF : Byte).toNat = 0xFF := rfl
  apply BitVec.eq_of_toNat_eq
  rw [pageFF, word_toNat, h]
  bv_omega

/-- Settles O10: by the four opcode bytes, with `pageFF_eq` for the address. -/
theorem loadAndStoreAInHighPage : Obligations.LoadAndStoreAInHighPage := by
  have hload : ∀ n, HasForm [0xF0, n] (.loadFrom .a (.page n)) fun _ => 12 :=
    fun n => hasForm_of_baseCost rfl rfl rfl fun _ _ => rfl
  have hstore : ∀ n, HasForm [0xE0, n] (.storeReg .a (.page n)) fun _ => 12 :=
    fun n => hasForm_of_baseCost rfl rfl rfl fun _ _ => rfl
  have hloadC : HasForm [0xF2] (.loadFrom .a .pageC) fun _ => 8 := hasForm_of_baseCost rfl rfl rfl fun _ _ => rfl
  have hstoreC : HasForm [0xE2] (.storeReg .a .pageC) fun _ => 8 := hasForm_of_baseCost rfl rfl rfl fun _ _ => rfl
  simp only [Obligations.LoadAndStoreAInHighPage, ← pageFF_eq]
  exact ⟨fun n => ⟨(hload n).executes fun _ => rfl, (hstore n).executes fun _ => rfl⟩,
    hloadC.executes fun _ => rfl, hstoreC.executes fun _ => rfl⟩

/-- The write leaves HL alone, so the address moved is the one written at (R216, R218). -/
theorem storeAStep_eq (k : Word) (s : State) :
    Machine.storeAStep k s = { s.writeByte s.hl s.a with hl := s.hl + k } := by
  simp only [Machine.storeAStep, State.writeByte_hl]

/-- Settles O11: by the four opcode bytes, with `storeAStep_eq` for the stores. -/
theorem loadAndStoreAMovingHl : Obligations.LoadAndStoreAMovingHl := by
  have hstoreInc : HasForm [0x22] (.storeAStep 1) fun _ => 8 := hasForm_of_baseCost rfl rfl rfl fun _ _ => rfl
  have hloadInc : HasForm [0x2A] (.loadAStep 1) fun _ => 8 := hasForm_of_baseCost rfl rfl rfl fun _ _ => rfl
  have hstoreDec : HasForm [0x32] (.storeAStep (-1)) fun _ => 8 := hasForm_of_baseCost rfl rfl rfl fun _ _ => rfl
  have hloadDec : HasForm [0x3A] (.loadAStep (-1)) fun _ => 8 := hasForm_of_baseCost rfl rfl rfl fun _ _ => rfl
  simp only [Obligations.LoadAndStoreAMovingHl, BitVec.sub_eq_add_neg, ← storeAStep_eq]
  exact ⟨hstoreInc.executes fun _ => rfl, hloadInc.executes fun _ => rfl, hstoreDec.executes fun _ => rfl,
    hloadDec.executes fun _ => rfl⟩

end Sys2Proof.Proofs

/-! PROOFS of the family 42_load16_stack.md: the 16-bit loads, PUSH and POP. The bytes are a form and a cost (`HasForm`),
and one equation per operation says what the form does to the whole state. -/

namespace Sys2Proof.Proofs

open Sys2Proof.Machine Sys2Proof.Laws Sys2Proof.Statements

/-! ### The 16-bit loads -/

theorem hasForm_loadImm16 (p : Reg16) (lo hi : Byte) :
    HasForm [opByte 0 (2 * pairCode p) 1, lo, hi] (.loadImm16 p (word hi lo)) fun _ => 12 := by
  cases p <;> exact hasForm_of_baseCost rfl rfl rfl fun _ _ => rfl

/-- Settles O12: by the pair field (R123) and the two opcode bytes; the order of R91 is that of `State.writeWord`. -/
theorem loadWords : Obligations.LoadWords := by
  have hstoreSp : ∀ lo hi, HasForm [0x08, lo, hi] (.storeSp (word hi lo)) fun _ => 20 :=
    fun lo hi => hasForm_of_baseCost rfl rfl rfl fun _ _ => rfl
  have hspHl : HasForm [0xF9] .loadSpHl fun _ => 8 := hasForm_of_baseCost rfl rfl rfl fun _ _ => rfl
  exact ⟨fun p lo hi => (hasForm_loadImm16 p lo hi).executes fun _ => rfl,
    fun lo hi => (hstoreSp lo hi).executes fun _ => rfl, hspHl.executes fun _ => rfl⟩

/-! ### SP plus a displacement -/

/-- All that `LD HL,SP+e8` does (R244). -/
theorem loadHlSp_eq (e : Byte) (s : State) : Machine.loadHlSp e s = { s with
    hl := s.sp + e.signExtend 16, zero := false, sub := false
    halfCarry := decide (s.sp.toNat % 16 + e.toNat % 16 > 15)
    carry := decide (s.sp.toNat % 256 + e.toNat > 255) } := by
  rw [Machine.loadHlSp, State.spFlags_eq, sext16]

/-- All that `ADD SP,e8` does (R324). -/
theorem addSp_eq (e : Byte) (s : State) : Machine.addSp e s = { s with
    sp := s.sp + e.signExtend 16, zero := false, sub := false
    halfCarry := decide (s.sp.toNat % 16 + e.toNat % 16 > 15)
    carry := decide (s.sp.toNat % 256 + e.toNat > 255) } := by
  rw [Machine.addSp, State.spFlags_eq, sext16]

/-- Settles O13: by the two opcode bytes, with `loadHlSp_eq` and `addSp_eq` for the sum and the flags. -/
theorem stackPointerPlusDisplacement : Obligations.StackPointerPlusDisplacement := by
  intro e
  have hloadHl : HasForm [0xF8, e] (.loadHlSp e) fun _ => 12 := hasForm_of_baseCost rfl rfl rfl fun _ _ => rfl
  have haddSp : HasForm [0xE8, e] (.addSp e) fun _ => 16 := hasForm_of_baseCost rfl rfl rfl fun _ _ => rfl
  exact ⟨hloadHl.executes fun s => congrArg Host.Outcome.next (loadHlSp_eq e s),
    haddSp.executes fun s => congrArg Host.Outcome.next (addSp_eq e s)⟩

/-! ### PUSH and POP -/

theorem hasForm_push (p : StackReg) : HasForm [opByte 3 (2 * stackCode p) 5] (.push p) fun _ => 16 := by
  cases p <;> exact hasForm_of_baseCost rfl rfl rfl fun _ _ => rfl

/-- Settles O14: by the pair field (R123), with `State.stackPush_eq` for the two bus writes. -/
theorem pushWritesHighByteFirst : Obligations.PushWritesHighByteFirst :=
  fun p => (hasForm_push p).executes fun s => congrArg Host.Outcome.next (s.stackPush_eq (s.stackReg p))

theorem hasForm_pop (p : StackReg) : HasForm [opByte 3 (2 * stackCode p) 1] (.pop p) fun _ => 12 := by
  cases p <;> exact hasForm_of_baseCost rfl rfl rfl fun _ _ => rfl

/-- The pop as a write of the pair from the two bytes read (R83), before SP moves. -/
theorem popReg_eq (p : StackReg) (s : State) :
    popReg p s = s.stackDrop.setStackReg p (word (s.readByte (s.sp + 1)) (s.readByte s.sp)) := rfl

/-- Settles O15: by the pair field (R123); the halves of the popped word are the two bytes read. -/
theorem popReadsLowByteFirst : Obligations.PopReadsLowByteFirst := by
  refine fun p => (hasForm_pop p).executes fun s => congrArg Host.Outcome.next ?_
  rw [popReg_eq]
  cases p <;> simp only [State.setStackReg, State.setF, State.stackDrop, hiByte_word, loByte_word]

end Sys2Proof.Proofs

/-! PROOFS of the family 43_alu8.md: the 8-bit arithmetic and logic. The two opcode rows of an ALU operation are said once
for all eight (`alu_executes`); the decimal adjustment is two corrections, one per digit (`decimalAdjust_eq`), which after
an addition or subtraction of BCD numbers are exactly the digits' own carries or borrows. -/

namespace Sys2Proof.Proofs

open Sys2Proof.Machine Sys2Proof.Laws Sys2Proof.Statements

/-! ### The ALU operations -/

/-- The operation field of an ALU opcode (30_encoding.md R125). -/
def aluCode : Alu → Nat
  | .add => 0
  | .adc => 1
  | .sub => 2
  | .sbc => 3
  | .and => 4
  | .xor => 5
  | .or => 6
  | .cp => 7

theorem hasForm_alu (o : Alu) (x : Operand8) :
    HasForm [opByte 2 (aluCode o) (operandCode x)] (.alu o (.operand x)) (byOperand x 4 8) := by
  cases x with
  | reg r => cases o <;> cases r <;> exact hasForm_of_baseCost rfl rfl rfl fun _ _ => rfl
  | memHl => cases o <;> exact hasForm_of_baseCost rfl rfl rfl fun _ _ => rfl

theorem hasForm_aluImm (o : Alu) (n : Byte) :
    HasForm [opByte 3 (aluCode o) 6, n] (.alu o (.imm n)) fun _ => 8 := by
  cases o <;> exact hasForm_of_baseCost rfl rfl rfl fun _ _ => rfl

/-- What an ALU operation does to a byte, its instructions do to their operand: a register, (HL) or d8. -/
theorem alu_executes (o : Alu) {f : Byte → State → State} (hrun : ∀ v s, o.run v s = f v s) :
    (∀ x : Operand8, Executes [opByte 2 (aluCode o) (operandCode x)] (fun s => f (s.operand x) s) (byOperand x 4 8)) ∧
    ∀ n : Byte, Executes [opByte 3 (aluCode o) 6, n] (f n) fun _ => 8 :=
  ⟨fun x => (hasForm_alu o x).executes fun s => congrArg Host.Outcome.next (hrun (s.operand x) s),
    fun n => (hasForm_aluImm o n).executes fun s => congrArg Host.Outcome.next (hrun n s)⟩

theorem add8_eq_added (v : Byte) (s : State) : add8 v s = added v 0 s := s.addToA_eq v 0

theorem adc8_eq_added (v : Byte) (s : State) : adc8 v s = added v (if s.carry then 1 else 0) s :=
  s.addToA_eq v (bitNat s.carry)

theorem sub8_eq_subtracted (v : Byte) (s : State) : sub8 v s = subtracted v 0 s := s.subFromA_eq v 0

theorem sbc8_eq_subtracted (v : Byte) (s : State) : sbc8 v s = subtracted v (if s.carry then 1 else 0) s :=
  s.subFromA_eq v (bitNat s.carry)

/-- CP with the accumulator first (R285), where `Compare` has it second. -/
theorem cp8_eq (v : Byte) (s : State) : cp8 v s =
    setAFlags s s.a (s.a == v) true (s.a.toNat % 16 < v.toNat % 16) (s.a.toNat < v.toNat) := by
  rw [cp8, s.compare_eq, BEq.comm]
  rfl

/-- Settles O16: ADD and ADC are `added`. -/
theorem addToAccumulator : Obligations.AddToAccumulator := by
  obtain ⟨hadd, haddImm⟩ := alu_executes .add add8_eq_added
  obtain ⟨hadc, hadcImm⟩ := alu_executes .adc adc8_eq_added
  exact ⟨fun x => ⟨hadd x, hadc x⟩, fun n => ⟨haddImm n, hadcImm n⟩⟩

/-- Settles O17: SUB and SBC are `subtracted`. -/
theorem subtractFromAccumulator : Obligations.SubtractFromAccumulator := by
  obtain ⟨hsub, hsubImm⟩ := alu_executes .sub sub8_eq_subtracted
  obtain ⟨hsbc, hsbcImm⟩ := alu_executes .sbc sbc8_eq_subtracted
  exact ⟨fun x => ⟨hsub x, hsbc x⟩, fun n => ⟨hsubImm n, hsbcImm n⟩⟩

/-- Settles O18: the three logic operations are `State.logicToA`. -/
theorem logicOnAccumulator : Obligations.LogicOnAccumulator := by
  obtain ⟨hand, handImm⟩ := alu_executes .and fun _ _ => rfl
  obtain ⟨hxor, hxorImm⟩ := alu_executes .xor fun _ _ => rfl
  obtain ⟨hor, horImm⟩ := alu_executes .or fun _ _ => rfl
  exact ⟨fun x => ⟨hand x, hxor x, hor x⟩, fun n => ⟨handImm n, hxorImm n, horImm n⟩⟩

/-- Settles O19: by `cp8_eq`. -/
theorem compareWithAccumulator : Obligations.CompareWithAccumulator := alu_executes .cp cp8_eq

/-! ### INC and DEC -/

theorem hasForm_inc8 (x : Operand8) : HasForm [opByte 0 (operandCode x) 4] (.inc8 x) (byOperand x 4 12) := by
  cases x with
  | reg r => cases r <;> exact hasForm_of_baseCost rfl rfl rfl fun _ _ => rfl
  | memHl => exact hasForm_of_baseCost rfl rfl rfl fun _ _ => rfl

theorem hasForm_dec8 (x : Operand8) : HasForm [opByte 0 (operandCode x) 5] (.dec8 x) (byOperand x 4 12) := by
  cases x with
  | reg r => cases r <;> exact hasForm_of_baseCost rfl rfl rfl fun _ _ => rfl
  | memHl => exact hasForm_of_baseCost rfl rfl rfl fun _ _ => rfl

theorem lowNibble_beq (v w : Byte) : (v &&& 0x0F == w) = decide (v.toNat % 16 = w.toNat) := by
  rw [beq_eq_decide, decide_eq_decide, ← lowNibble_eq, lowNibble, BitVec.toNat_inj]

/-- The flags of R287 in terms of the operand before it moves. -/
theorem incFlags_eq (t : State) (v : Byte) : t.incFlags (v + 1) = { t with
    zero := decide (v = 0xFF), sub := false, halfCarry := decide (v.toNat % 16 = 15) } := by
  have hzero : (v + 1 == 0) = decide (v = 0xFF) := by
    rw [beq_eq_decide, decide_eq_decide]
    bv_omega
  have hhalf : (v + 1 &&& 0x0F == 0) = decide (v.toNat % 16 = 15) := by
    rw [lowNibble_beq, decide_eq_decide]
    bv_omega
  rw [State.incFlags, hzero, hhalf]
  rfl

/-- The flags of R289 in terms of the operand before it moves. -/
theorem decFlags_eq (t : State) (v : Byte) : t.decFlags (v - 1) = { t with
    zero := decide (v = 0x01), sub := true, halfCarry := decide (v.toNat % 16 = 0) } := by
  have hzero : (v - 1 == 0) = decide (v = 0x01) := by
    rw [beq_eq_decide, decide_eq_decide]
    bv_omega
  have hhalf : (v - 1 &&& 0x0F == 0x0F) = decide (v.toNat % 16 = 0) := by
    rw [lowNibble_beq, decide_eq_decide]
    bv_omega
  rw [State.decFlags, hzero, hhalf]
  rfl

/-- Settles O21: the flags by `incFlags_eq` and `decFlags_eq`, whatever the write back left. -/
theorem incrementAndDecrementByte : Obligations.IncrementAndDecrementByte :=
  fun x => ⟨(hasForm_inc8 x).executes fun _ => congrArg Host.Outcome.next (incFlags_eq _ _),
    (hasForm_dec8 x).executes fun _ => congrArg Host.Outcome.next (decFlags_eq _ _)⟩

/-! ### Decimal adjustment -/

/-- The correction of the low digit (R291). -/
def lowAdjust (s : State) : Byte := if s.halfCarry ∨ (s.sub = false ∧ s.a.toNat % 16 > 9) then 0x06 else 0

/-- The correction of the high digit (R291). -/
def highAdjust (s : State) : Byte := if s.carry ∨ (s.sub = false ∧ s.a.toNat > 0x99) then 0x60 else 0

/-- A after both corrections. -/
def decimalAdjusted (s : State) : Byte :=
  if s.sub then s.a - lowAdjust s - highAdjust s else s.a + lowAdjust s + highAdjust s

/-- The two corrections share no bit. -/
theorem adjust_or_eq_add : ∀ low high : Bool,
    ((if low then 0x06 else 0) ||| (if high then 0x60 else 0) : Byte) =
      (if low then 0x06 else 0) + (if high then 0x60 else 0) := by
  decide

/-- All that DAA does (R291). -/
theorem decimalAdjust_eq (s : State) : s.decimalAdjust = { s with
    a := decimalAdjusted s, zero := decimalAdjusted s == 0, halfCarry := false
    carry := s.carry || (!s.sub && decide (s.a.toNat > 0x99)) } := by
  have hcarry : (if s.sub then s.carry else s.carry || (!s.sub && decide (s.a.toNat > 0x99))) =
      (s.carry || (!s.sub && decide (s.a.toNat > 0x99))) := by
    cases s.sub <;> simp
  have hvalue : (if s.sub then s.a - (lowAdjust s + highAdjust s) else s.a + (lowAdjust s + highAdjust s)) =
      decimalAdjusted s := by
    rw [decimalAdjusted, sub_add_eq_sub_sub, add_assoc]
  simp only [State.decimalAdjust, adjust_or_eq_add, lowNibble_eq, hcarry]
  simp only [Bool.or_eq_true, Bool.and_eq_true, Bool.not_eq_true', decide_eq_true_eq]
  rw [← hvalue]
  rfl

/-- Settles O22: by `decimalAdjust_eq`. -/
theorem decimalAdjustAccumulator : Obligations.DecimalAdjustAccumulator := by
  have hdaa : HasForm [0x27] .daa fun _ => 4 := hasForm_of_baseCost rfl rfl rfl fun _ _ => rfl
  exact hdaa.executes fun s => congrArg Host.Outcome.next (decimalAdjust_eq s)

/-! ### Decimal sums and differences -/

theorem bcd_toNat {n : Nat} (hn : n < 100) : (bcd n).toNat = n / 10 * 16 + n % 10 := by
  rw [bcd, BitVec.toNat_ofNat]
  omega

theorem bcd_beq_zero {n : Nat} (hn : n < 100) : (bcd n == 0) = decide (n = 0) := by
  rw [bcd, ofNat_beq_zero, decide_eq_decide]
  omega

/-- Adding BCD bytes, 6 corrects each digit that carries. -/
theorem bcd_add_bcd {x y : Nat} (hx : x < 100) (hy : y < 100) :
    bcd x + bcd y + (if 10 ≤ x % 10 + y % 10 then 0x06 else 0) + (if 100 ≤ x + y then 0x60 else 0) =
      bcd ((x + y) % 100) := by
  have hxn := bcd_toNat hx
  have hyn := bcd_toNat hy
  have hsum := bcd_toNat (n := (x + y) % 100) (by omega)
  split <;> split <;> bv_omega

/-- Subtracting BCD bytes, 6 corrects each digit that borrows. -/
theorem bcd_sub_bcd {x y : Nat} (hx : x < 100) (hy : y < 100) :
    bcd x - bcd y - (if x % 10 < y % 10 then 0x06 else 0) - (if x < y then 0x60 else 0) =
      bcd ((100 + x - y) % 100) := by
  have hxn := bcd_toNat hx
  have hyn := bcd_toNat hy
  have hdiff := bcd_toNat (n := (100 + x - y) % 100) (by omega)
  split <;> split <;> bv_omega

section

variable {s : State} {x y : Nat} (hx : x < 100) (hy : y < 100) (ha : s.a = bcd x)
include hx hy ha

/-- After ADD (R272) the tests of R291 find the low digit's carry. -/
theorem lowAdjust_added : lowAdjust (added (bcd y) 0 s) = if 10 ≤ x % 10 + y % 10 then 0x06 else 0 := by
  have hxn := bcd_toNat hx
  have hyn := bcd_toNat hy
  refine if_congr ?_ rfl rfl
  simp only [added, setAFlags, ha, hxn, hyn, decide_eq_true_eq, true_and, BitVec.toNat_add, BitVec.toNat_ofNat]
  omega

/-- After ADD the Carry and the test of A find the high digit's carry. -/
theorem carry_or_gt_added :
    (added (bcd y) 0 s).carry = true ∨ (added (bcd y) 0 s).a.toNat > 0x99 ↔ 100 ≤ x + y := by
  have hxn := bcd_toNat hx
  have hyn := bcd_toNat hy
  simp only [added, setAFlags, ha, hxn, hyn, decide_eq_true_eq, BitVec.toNat_add, BitVec.toNat_ofNat]
  omega

theorem decimalAdjust_added :
    (added (bcd y) 0 s).decimalAdjust.a = bcd ((x + y) % 100) ∧
    (added (bcd y) 0 s).decimalAdjust.carry = decide (100 ≤ x + y) ∧
    (added (bcd y) 0 s).decimalAdjust.zero = decide ((x + y) % 100 = 0) := by
  have hsub : (added (bcd y) 0 s).sub = false := rfl
  have hhigh : highAdjust (added (bcd y) 0 s) = if 100 ≤ x + y then 0x60 else 0 := by
    refine if_congr ?_ rfl rfl
    rw [← carry_or_gt_added hx hy ha, hsub, eq_self, true_and]
  have hsum : (added (bcd y) 0 s).a = bcd x + bcd y := by simp [added, setAFlags, ha]
  have hvalue : decimalAdjusted (added (bcd y) 0 s) = bcd ((x + y) % 100) := by
    rw [decimalAdjusted, hsub, if_neg Bool.false_ne_true, lowAdjust_added hx hy ha, hhigh, hsum, bcd_add_bcd hx hy]
  rw [decimalAdjust_eq, hvalue, bcd_beq_zero (by omega)]
  refine ⟨rfl, ?_, rfl⟩
  rw [hsub, Bool.not_false, Bool.true_and, Bool.eq_iff_iff, Bool.or_eq_true, decide_eq_true_eq, decide_eq_true_eq]
  exact carry_or_gt_added hx hy ha

theorem lowAdjust_subtracted : lowAdjust (subtracted (bcd y) 0 s) = if x % 10 < y % 10 then 0x06 else 0 := by
  have hxn := bcd_toNat hx
  have hyn := bcd_toNat hy
  refine if_congr ?_ rfl rfl
  simp only [subtracted, setAFlags, ha, hxn, hyn, decide_eq_true_eq, Bool.true_eq_false, false_and, or_false]
  omega

/-- The Carry of SUB (R276) is the decimal borrow too. -/
theorem carry_subtracted : (subtracted (bcd y) 0 s).carry = decide (x < y) := by
  have hxn := bcd_toNat hx
  have hyn := bcd_toNat hy
  simp only [subtracted, setAFlags, ha, hxn, hyn, decide_eq_decide]
  omega

theorem decimalAdjust_subtracted :
    (subtracted (bcd y) 0 s).decimalAdjust.a = bcd ((100 + x - y) % 100) ∧
    (subtracted (bcd y) 0 s).decimalAdjust.carry = decide (x < y) ∧
    (subtracted (bcd y) 0 s).decimalAdjust.zero = decide (x = y) := by
  have hsub : (subtracted (bcd y) 0 s).sub = true := rfl
  have hcarry := carry_subtracted hx hy ha
  have hhigh : highAdjust (subtracted (bcd y) 0 s) = if x < y then 0x60 else 0 := by
    refine if_congr ?_ rfl rfl
    rw [hcarry, hsub]
    simp
  have hdifference : (subtracted (bcd y) 0 s).a = bcd x - bcd y := by simp [subtracted, setAFlags, ha]
  have hvalue : decimalAdjusted (subtracted (bcd y) 0 s) = bcd ((100 + x - y) % 100) := by
    rw [decimalAdjusted, hsub, if_pos rfl, lowAdjust_subtracted hx hy ha, hhigh, hdifference, bcd_sub_bcd hx hy]
  have hzero : (100 + x - y) % 100 = 0 ↔ x = y := by omega
  rw [decimalAdjust_eq, hvalue, bcd_beq_zero (by omega), decide_eq_decide.2 hzero]
  exact ⟨rfl, by rw [hcarry, hsub, Bool.not_true, Bool.false_and, Bool.or_false], rfl⟩

end

/-- Settles O23: ADD is `added` and SUB is `subtracted`, and what DAA makes of each. -/
theorem decimalAdjustGivesDecimalSums : Obligations.DecimalAdjustGivesDecimalSums :=
  fun s _ y hx hy ha =>
    ⟨⟨_, _, congrArg Host.Outcome.next (add8_eq_added (bcd y) s), rfl, decimalAdjust_added hx hy ha⟩,
      ⟨_, _, congrArg Host.Outcome.next (sub8_eq_subtracted (bcd y) s), rfl, decimalAdjust_subtracted hx hy ha⟩⟩

/-! ### CPL, SCF and CCF -/

/-- Settles O24: by the three opcode bytes. -/
theorem complementAndCarryFlagInstructions : Obligations.ComplementAndCarryFlagInstructions := by
  have hcpl : HasForm [0x2F] .cpl fun _ => 4 := hasForm_of_baseCost rfl rfl rfl fun _ _ => rfl
  have hscf : HasForm [0x37] .scf fun _ => 4 := hasForm_of_baseCost rfl rfl rfl fun _ _ => rfl
  have hccf : HasForm [0x3F] .ccf fun _ => 4 := hasForm_of_baseCost rfl rfl rfl fun _ _ => rfl
  exact ⟨hcpl.executes fun _ => rfl, hscf.executes fun _ => rfl, hccf.executes fun _ => rfl⟩

end Sys2Proof.Proofs

/-! PROOFS of the family 44_alu16.md: the 16-bit arithmetic on a pair. The pair field (R123) selects the bytes; the sum and
its flags are `State.addToHl_eq`, and a step of a pair is `step16`. -/

namespace Sys2Proof.Proofs

open Sys2Proof.Machine Sys2Proof.Laws Sys2Proof.Statements

theorem hasForm_addHl (p : Reg16) : HasForm [opByte 0 (2 * pairCode p + 1) 1] (.addHl p) fun _ => 8 := by
  cases p <;> exact hasForm_of_baseCost rfl rfl rfl fun _ _ => rfl

/-- Settles O25: by the pair field, with `State.addToHl_eq` for the sum and the flags. -/
theorem addPairToHl : Obligations.AddPairToHl :=
  fun p => (hasForm_addHl p).executes fun s => congrArg Host.Outcome.next (s.addToHl_eq (s.reg16 p))

theorem hasForm_incPair (p : Reg16) : HasForm [opByte 0 (2 * pairCode p) 3] (.step16 p 1) fun _ => 8 := by
  cases p <;> exact hasForm_of_baseCost rfl rfl rfl fun _ _ => rfl

theorem hasForm_decPair (p : Reg16) : HasForm [opByte 0 (2 * pairCode p + 1) 3] (.step16 p (-1)) fun _ => 8 := by
  cases p <;> exact hasForm_of_baseCost rfl rfl rfl fun _ _ => rfl

/-- A step by -1 is the subtraction of R323. -/
theorem step16_neg_one (p : Reg16) (s : State) : step16 p (-1) s = s.setReg16 p (s.reg16 p - 1) := by
  rw [step16, BitVec.sub_eq_add_neg]

/-- Settles O26: by the pair field; INC is `step16` by 1, DEC by -1. -/
theorem incrementAndDecrementPair : Obligations.IncrementAndDecrementPair :=
  fun p => ⟨(hasForm_incPair p).executes fun _ => rfl,
    (hasForm_decPair p).executes fun s => congrArg Host.Outcome.next (step16_neg_one p s)⟩

end Sys2Proof.Proofs

/-! PROOFS of the family 45_rotate_shift_bit.md: rotates, shifts and bit operations. The three fields of the second byte of
an extended instruction select its operation, operand and cost once for all 256 (`extended_executes`); what each rotate or
shift makes of a byte is said once, for A and for an operand alike. -/

namespace Sys2Proof.Proofs

open Sys2Proof.Machine Sys2Proof.Laws Sys2Proof.Statements

/-! ### The fields of an opcode byte -/

theorem operandCode_lt (o : Operand8) : operandCode o < 8 := by
  cases o with
  | reg r => cases r <;> decide
  | memHl => decide

theorem operandOf_operandCode (o : Operand8) : operandOf (operandCode o) = o := by
  cases o with
  | reg r => cases r <;> rfl
  | memHl => rfl

section

variable {x y z : Nat} (hx : x < 4) (hy : y < 8) (hz : z < 8)
include hx hy hz

theorem opByte_toNat : (opByte x y z).toNat = 64 * x + 8 * y + z := by
  rw [opByte, BitVec.toNat_ofNat]
  omega

theorem opByte_toNat_div_64 : (opByte x y z).toNat / 64 = x := by
  rw [opByte_toNat hx hy hz]
  omega

theorem fieldY_opByte : fieldY (opByte x y z) = y := by
  rw [fieldY, opByte_toNat hx hy hz]
  omega

theorem fieldZ_opByte : fieldZ (opByte x y z) = z := by
  rw [fieldZ, opByte_toNat hx hy hz]
  omega

end

/-! ### The extended table by the fields of the second byte -/

/-- The operation the fields x and y select (R130), on the operand `o`. -/
def extendedRow (x y : Nat) (o : Operand8) (s : State) : State :=
  match x with
  | 0 => rotateAt (rotateOf y) o s
  | 1 => bitTest y o s
  | 2 => bitReset y o s
  | _ => bitSet y o s

section

variable {x y : Nat} (hx : x < 4) (hy : y < 8) (o : Operand8)
include hx hy

theorem runExtended_opByte (s : State) : runExtended (opByte x y (operandCode o)) s = extendedRow x y o s := by
  have hz := operandCode_lt o
  rw [runExtended, opByte_toNat_div_64 hx hy hz, fieldY_opByte hx hy hz, fieldZ_opByte hx hy hz, operandOf_operandCode]
  rfl

/-- The cost of R345: only BIT, which writes nothing back, is cheaper at (HL). -/
theorem cbCost_opByte (s : State) :
    4 + (cbCost (opByte x y (operandCode o)) - 4) = byOperand o 8 (if x = 1 then 12 else 16) s := by
  have hz := operandCode_lt o
  rw [cbCost, opByte_toNat_div_64 hx hy hz, fieldZ_opByte hx hy hz]
  cases o with
  | reg r => cases r <;> rfl
  | memHl => by_cases hbit : x = 1 <;> simp [operandCode, byOperand, hbit]

/-- The 256 extended instructions, each the operation of its row at the cost of R345. -/
theorem extended_executes : Executes [0xCB, opByte x y (operandCode o)] (extendedRow x y o)
    (byOperand o 8 (if x = 1 then 12 else 16)) :=
  ⟨cbTable (opByte x y (operandCode o)), rfl, fun s =>
    ⟨(exec_cbTable _ s).trans (congrArg Host.Outcome.next (runExtended_opByte hx hy o s)),
      (dispatchCost_cbTable _ s).trans (cbCost_opByte hx hy o s)⟩⟩

end

/-! ### Rotates and shifts -/

/-- R341, R346. -/
theorem rotLeft_eq : rotLeft = fun v _ => (v.rotateLeft 1, v.getLsbD 7) := by
  have hbits : ∀ v : Byte, v <<< 1 ||| bitByte (v.getLsbD 7) = v.rotateLeft 1 := by decide
  funext v _
  rw [rotLeft, hbits]

/-- R343, R347. -/
theorem rotRight_eq : rotRight = fun v _ => (v.rotateRight 1, v.getLsbD 0) := by
  have hbits : ∀ v : Byte, v >>> 1 ||| bitByte (v.getLsbD 0) <<< 7 = v.rotateRight 1 := by decide
  funext v _
  rw [rotRight, hbits]

/-- R342, R348. -/
theorem rotLeftCarry_eq :
    rotLeftCarry = fun (v : Byte) (cy : Bool) => (v <<< 1 ||| (if cy then 1 else 0), v.getLsbD 7) := rfl

/-- R344, R349. -/
theorem rotRightCarry_eq :
    rotRightCarry = fun (v : Byte) (cy : Bool) => (v >>> 1 ||| (if cy then 0x80 else 0), v.getLsbD 0) := by
  funext v cy
  cases cy <;> rfl

/-- R351: bit 7 is the sign. -/
theorem shiftRightArith_eq : shiftRightArith = fun v _ => (v.sshiftRight 1, v.getLsbD 0) := by
  have hbits : ∀ v : Byte, v >>> 1 ||| v &&& 0x80 = v.sshiftRight 1 := by decide
  funext v _
  rw [shiftRightArith, hbits]

/-- R352: the nibbles change places by a rotate of four. -/
theorem swapNibbles_eq : swapNibbles = fun v _ => (v.rotateLeft 4, false) := rfl

/-- The row `y` of rotates and shifts, with its operation written out as `rot`. -/
theorem rotateAt_executes (y : Nat) (o : Operand8) {rot : Byte → Bool → Byte × Bool} (hrot : rotateOf y = rot)
    (hy : y < 8 := by decide) : Executes [0xCB, opByte 0 y (operandCode o)] (rotateAt rot o) (byOperand o 8 16) :=
  hrot ▸ extended_executes (by decide) hy o

/-- Settles O28: by the eight rows of the extended table, each with its operation written out. -/
theorem rotateAndShiftOperand : Obligations.RotateAndShiftOperand :=
  fun o => ⟨rotateAt_executes 0 o rotLeft_eq, rotateAt_executes 1 o rotRight_eq, rotateAt_executes 2 o rotLeftCarry_eq,
    rotateAt_executes 3 o rotRightCarry_eq, rotateAt_executes 4 o (rot := shiftLeft) rfl,
    rotateAt_executes 5 o shiftRightArith_eq, rotateAt_executes 6 o swapNibbles_eq,
    rotateAt_executes 7 o (rot := shiftRight) rfl⟩

/-- A rotate of A in the main table, with its operation written out as `rot'`. -/
theorem rotateA_executes {op : Byte} {i : Instr} {rot rot' : Byte → Bool → Byte × Bool} (hrot : rot = rot')
    (hdecode : decode [op] = .ok (i, [])) (hact : action i = .rotateA rot) (hbase : baseCost op = 4)
    (hextra : ∀ op2 s, extraCost op op2 s = 0) : Executes [op] (rotateA rot') fun _ => 4 :=
  hrot ▸ (hasForm_of_baseCost hdecode hact hbase hextra).executes fun _ => rfl

/-- Settles O27: the four rotates of A by the same operations as those of an operand. -/
theorem rotateAccumulator : Obligations.RotateAccumulator :=
  ⟨rotateA_executes rotLeft_eq rfl rfl rfl fun _ _ => rfl, rotateA_executes rotLeftCarry_eq rfl rfl rfl fun _ _ => rfl,
    rotateA_executes rotRight_eq rfl rfl rfl fun _ _ => rfl, rotateA_executes rotRightCarry_eq rfl rfl rfl fun _ _ => rfl⟩

/-! ### Bit operations -/

/-- Settles O29: by the rows x = 1 of the extended table. -/
theorem testBit : Obligations.TestBit :=
  fun b o => extended_executes (by decide) b.isLt o

theorem getLsbD_one_shiftLeft (b k : Fin 8) : (1#8 <<< b.val).getLsbD k.val = decide (k = b) := by
  rw [← BitVec.twoPow_eq, BitVec.getLsbD_twoPow, decide_eq_true b.isLt, Bool.true_and, decide_eq_decide, eq_comm,
    Fin.val_inj]

theorem getLsbD_clearBit (b k : Fin 8) (v : Byte) :
    (clearBit b.val v).getLsbD k.val = if k = b then false else v.getLsbD k.val := by
  rw [clearBit, BitVec.getLsbD_and, BitVec.getLsbD_not, getLsbD_one_shiftLeft]
  split <;> simp [*]

theorem getLsbD_setBit (b k : Fin 8) (v : Byte) :
    (setBit b.val v).getLsbD k.val = if k = b then true else v.getLsbD k.val := by
  rw [setBit, BitVec.getLsbD_or, getLsbD_one_shiftLeft]
  split <;> simp [*]

/-- Settles O30: by the rows x = 2 and x = 3 of the extended table, with `clearBit` and `setBit` bit by bit. -/
theorem resetAndSetBit : Obligations.ResetAndSetBit :=
  fun b o => ⟨clearBit b.val, setBit b.val, extended_executes (by decide) b.isLt o,
    extended_executes (by decide) b.isLt o, fun v k => ⟨getLsbD_clearBit b k v, getLsbD_setBit b k v⟩⟩

end Sys2Proof.Proofs

/-! PROOFS of the family 46_control.md: jumps, calls and returns. A transfer under a condition is said once for its cost
(`hasForm_of_condition`); what a call does to the whole state is `callTo_eq`. -/

namespace Sys2Proof.Proofs

open Sys2Proof.Machine Sys2Proof.Laws Sys2Proof.Statements

/-! ### Transfers under a condition -/

theorem opcode_of_decode {op : Byte} {operands : List Byte} {i : Instr}
    (hdecode : decode (op :: operands) = .ok (i, [])) : i.opcode = op := by
  rw [Instr.opcode, ← List.append_nil (encode i), (encodeOfDecodeGivesBytesBack _ _ _ hdecode).1]
  rfl

/-- An instruction that costs `k` more than the base cost of its opcode byte where its condition holds (R163). -/
theorem hasForm_of_condition {op : Byte} {operands : List Byte} {i : Instr} {act : Action} {cc : Cond} {m k : Nat}
    (hdecode : decode (op :: operands) = .ok (i, [])) (hact : action i = act) (hbase : baseCost op = m)
    (hextra : ∀ op2 s, extraCost op op2 s = if s.holds cc then k else 0) :
    HasForm (op :: operands) act fun s => if s.holds cc then m + k else m := by
  have hopcode : i.opcode = op := opcode_of_decode hdecode
  refine ⟨i, hdecode, hact, fun s => ?_⟩
  rw [dispatchCost_eq (hopcode ▸ hbase) (hopcode ▸ hextra _ s), add_ite, add_zero]

/-! ### Jumps -/

theorem hasForm_jumpIf (cc : Cond) (lo hi : Byte) : HasForm [opByte 3 (condCode cc) 2, lo, hi]
    (.jump (some cc) (word hi lo)) fun s => if s.holds cc then 16 else 12 := by
  cases cc <;> exact hasForm_of_condition (k := 4) rfl rfl rfl fun _ _ => rfl

/-- Settles O31: by the condition field (R124) and the two opcode bytes. -/
theorem jumpAbsolute : Obligations.JumpAbsolute := by
  have hjump : ∀ lo hi, HasForm [0xC3, lo, hi] (.jump none (word hi lo)) fun _ => 16 :=
    fun lo hi => hasForm_of_baseCost rfl rfl rfl fun _ _ => rfl
  have hjumpHl : HasForm [0xE9] .jumpHl fun _ => 4 := hasForm_of_baseCost rfl rfl rfl fun _ _ => rfl
  exact ⟨fun lo hi => ⟨(hjump lo hi).executes fun _ => rfl, fun cc => (hasForm_jumpIf cc lo hi).executes fun _ => rfl⟩,
    hjumpHl.executes fun _ => rfl⟩

theorem hasForm_jumpRelIf (cc : Cond) (e : Byte) : HasForm [opByte 0 (condCode cc + 4) 0, e]
    (.jumpRel (some cc) e) fun s => if s.holds cc then 12 else 8 := by
  cases cc <;> exact hasForm_of_condition (k := 4) rfl rfl rfl fun _ _ => rfl

/-- Settles O32: by the condition field; the displacement is added to the PC past the instruction (R384). -/
theorem jumpRelative : Obligations.JumpRelative := by
  intro e
  have hjump : HasForm [0x18, e] (.jumpRel none e) fun _ => 12 := hasForm_of_baseCost rfl rfl rfl fun _ _ => rfl
  exact ⟨hjump.executes fun _ => rfl, fun cc => (hasForm_jumpRelIf cc e).executes fun _ => rfl⟩

/-! ### Calls -/

/-- All that a call does (R386): the return address pushed by two bus writes, high byte first (R82), and PC set. -/
theorem callTo_eq (target : Word) (s : State) : callTo target s =
    { (s.writeByte (s.sp - 1) (hiByte s.pc)).writeByte (s.sp - 2) (loByte s.pc) with
      sp := s.sp - 2, pc := target } := by
  rw [callTo, State.stackPush_eq]

theorem hasForm_callIf (cc : Cond) (lo hi : Byte) : HasForm [opByte 3 (condCode cc) 4, lo, hi]
    (.call (some cc) (word hi lo)) fun s => if s.holds cc then 24 else 12 := by
  cases cc <;> exact hasForm_of_condition (k := 12) rfl rfl rfl fun _ _ => rfl

theorem hasForm_restart (t : Fin 8) :
    HasForm [opByte 3 t.val 7] (.call none (BitVec.ofNat 16 (8 * t.val))) fun _ => 16 := by
  fin_cases t <;> exact hasForm_of_baseCost rfl rfl rfl fun _ _ => rfl

/-- Settles O33: by the condition field and the restart field, with `callTo_eq` for the push and the jump. -/
theorem callAndRestart : Obligations.CallAndRestart := by
  have hcall : ∀ lo hi, HasForm [0xCD, lo, hi] (.call none (word hi lo)) fun _ => 24 :=
    fun lo hi => hasForm_of_baseCost rfl rfl rfl fun _ _ => rfl
  simp only [Obligations.CallAndRestart, ← callTo_eq]
  exact ⟨fun lo hi => ⟨(hcall lo hi).executes fun _ => rfl, fun cc => (hasForm_callIf cc lo hi).executes fun _ => rfl⟩,
    fun t => (hasForm_restart t).executes fun _ => rfl⟩

/-! ### Returns -/

theorem hasForm_retIf (cc : Cond) : HasForm [opByte 3 (condCode cc) 0] (.ret (some cc))
    fun s => if s.holds cc then 20 else 8 := by
  cases cc <;> exact hasForm_of_condition (k := 12) rfl rfl rfl fun _ _ => rfl

/-- Settles O34: by the condition field; the popped word is the two bytes read (R83). -/
theorem returnPopsTheCounter : Obligations.ReturnPopsTheCounter := by
  have hret : HasForm [0xC9] (.ret none) fun _ => 16 := hasForm_of_baseCost rfl rfl rfl fun _ _ => rfl
  exact ⟨hret.executes fun _ => rfl, fun cc => (hasForm_retIf cc).executes fun _ => rfl⟩

/-- Settles O35: by the opcode byte; RETI is `State.returnFromInterrupt` (R454). -/
theorem returnFromInterruptEnablesAtOnce : Obligations.ReturnFromInterruptEnablesAtOnce := by
  have hreti : HasForm [0xD9] .reti fun _ => 16 := hasForm_of_baseCost rfl rfl rfl fun _ _ => rfl
  exact hreti.executes fun _ => rfl

end Sys2Proof.Proofs

/-! PROOFS of the family 47_system.md: NOP, HALT, STOP, DI and EI by their opcode bytes and forms (`HasForm`), and the row
PREFIX CB, which shares its two bytes with an extended instruction and therefore also its cost. -/

namespace Sys2Proof.Proofs

open Sys2Proof.Machine Sys2Proof.Laws Sys2Proof.Statements

/-! ### The row PREFIX CB -/

/-- Dispatch takes the cost from the bytes alone (R163, R170): instructions with the same bytes cost the same. -/
theorem dispatchCost_congr_encode {i j : Instr} (h : encode i = encode j) (s : State) :
    dispatchCost i s = dispatchCost j s := by
  rw [dispatchCost, dispatchCost, Instr.opcode, Instr.opcode, h]

/-- Settles O5: both run `runExtended` on the second byte (`exec_cbTable`), and both have the same two bytes
(`encode_cbTable`). -/
theorem prefixRunsTheExtendedTable : Obligations.PrefixRunsTheExtendedTable := by
  intro op2 s
  have hdecode : decode [0xCB, op2] = .ok (cbTable op2, []) := decode_encode (.prefixCb op2) rfl []
  have hprefix : exec (.prefixCb op2) s = .next (runExtended op2 s) := exec_eq_run (.prefixCb op2) s
  have hbytes : encode (.prefixCb op2) = encode (cbTable op2) := (encode_cbTable op2).symm
  exact ⟨cbTable op2, runExtended op2 s, hdecode, hprefix, exec_cbTable op2 s, dispatchCost_congr_encode hbytes s⟩

/-! ### NOP, HALT and STOP -/

/-- Settles O36: by the opcode byte; the form `.nop` leaves every state as it is. -/
theorem noOperationChangesNothing : Obligations.NoOperationChangesNothing := by
  have hnop : HasForm [0x00] .nop fun _ => 4 := hasForm_of_baseCost rfl rfl rfl fun _ _ => rfl
  exact hnop.executes fun _ => rfl

/-- Settles O37: by the two opcode bytes, the second byte of STOP free; `exec_eq_run` makes STOP the form `.stop` under
the model's `Config.stopMode`. -/
theorem haltLatchesAndStopGoesOn : Obligations.HaltLatchesAndStopGoesOn := by
  have hhalt : HasForm [0x76] .halt fun _ => 4 := hasForm_of_baseCost rfl rfl rfl fun _ _ => rfl
  have hstop : ∀ n : Byte, HasForm [0x10, n] .stop fun _ => 4 :=
    fun n => hasForm_of_baseCost rfl rfl rfl fun _ _ => rfl
  exact ⟨hhalt.executes fun _ => rfl, fun n => (hstop n).executes fun _ => rfl⟩

/-! ### DI and EI -/

/-- Settles O38: by the two opcode bytes (D2). -/
theorem disableAndEnableOnlySetPending : Obligations.DisableAndEnableOnlySetPending := by
  have hdi : HasForm [0xF3] .di fun _ => 4 := hasForm_of_baseCost rfl rfl rfl fun _ _ => rfl
  have hei : HasForm [0xFB] .ei fun _ => 4 := hasForm_of_baseCost rfl rfl rfl fun _ _ => rfl
  exact ⟨hdi.executes fun _ => rfl, hei.executes fun _ => rfl⟩

end Sys2Proof.Proofs

/-! PROOFS of the family 60_exceptions.md: the one fault, host writes and the halted core, and taking an interrupt.
Which instructions complete is said once on the forms (`run_completes_or_unassigned`), and what a Dispatch call answers
for what its handler answers once each (`dispatch_of_exec_next`, `dispatch_of_exec_fault`). -/

namespace Sys2Proof.Proofs

open Sys2Proof.Machine Sys2Proof.Laws Sys2Proof.Statements

/-! ### The one fault -/

theorem dispatch_of_exec_next {s t : State} (h : exec s.fetchInstr (s.pastInstr s.fetchInstr) = .next t) :
    dispatch s = .next (State.finish s.fetchInstr (s.readByte s.pc) (s.pastInstr s.fetchInstr) t) := by
  rw [dispatch, h]

theorem dispatch_of_exec_fault {s : State} {r : Fault} (h : exec s.fetchInstr (s.pastInstr s.fetchInstr) = .fault r) :
    dispatch s = .fault r := by
  rw [dispatch, h]

theorem exec_unassigned (op : Byte) (s : State) :
    exec (.unassigned op) s = .fault (.unassignedOpcode op (s.pc - 1) s) := rfl

theorem pastInstr_unassigned (s : State) (op : Byte) : s.pastInstr (.unassigned op) = { s with pc := s.pc + 1 } := rfl

/-- Settles O39: the byte decodes to itself, its fetch moves PC by one, and the fault carries PC less one. -/
theorem unassignedOpcodeIsFatal : Obligations.UnassignedOpcodeIsFatal := by
  intro s hcost
  have hfetch : s.fetchInstr = .unassigned (s.readByte s.pc) :=
    decodeAt_of_mem_unassignedOpcodes ((baseCost_eq_zero_iff _).1 hcost) _ _
  apply dispatch_of_exec_fault
  rw [hfetch, pastInstr_unassigned, exec_unassigned, BitVec.add_sub_cancel]

/-- R443: the only form that answers no next state is the fault's own. -/
theorem run_completes_or_unassigned (act : Action) (s : State) :
    (∃ t, act.run s = .next t) ∨ ∃ op, act = .unassigned op := by
  cases act with
  | unassigned op => exact .inr ⟨op, rfl⟩
  | _ => exact .inl ⟨_, rfl⟩

theorem eq_unassigned_of_action {i : Instr} {op : Byte} (h : action i = .unassigned op) : i = .unassigned op := by
  cases i <;> cases h
  rfl

theorem exec_completes_or_unassigned (i : Instr) (s : State) :
    (∃ t, exec i s = .next t) ∨ ∃ op, i = .unassigned op := by
  rw [exec_eq_run]
  exact (run_completes_or_unassigned (action i) s).imp_right fun ⟨op, h⟩ => ⟨op, eq_unassigned_of_action h⟩

theorem dispatch_completes_or_faults (s : State) :
    (∃ t, dispatch s = .next t) ∨ ∃ op pc0 u, dispatch s = .fault (.unassignedOpcode op pc0 u) := by
  rcases exec_completes_or_unassigned s.fetchInstr (s.pastInstr s.fetchInstr) with ⟨t, ht⟩ | ⟨op, hop⟩
  · exact .inl ⟨_, dispatch_of_exec_next ht⟩
  · have hfault := exec_unassigned op (s.pastInstr s.fetchInstr)
    rw [← hop] at hfault
    exact .inr ⟨op, _, _, dispatch_of_exec_fault hfault⟩

theorem step_of_halted {s : State} (h : s.afterHost.halted = true) : step s = .next s.afterHost := if_pos h

/-- Settles O54: a step is a Dispatch call, or the host's part alone. -/
theorem onlyUnassignedOpcodesFault : Obligations.OnlyUnassignedOpcodesFault := by
  refine ⟨exec_completes_or_unassigned, fun s => ?_⟩
  cases hhalted : s.afterHost.halted with
  | true => exact .inl ⟨_, step_of_halted hhalted⟩
  | false =>
    rw [step_of_not_halted hhalted]
    exact dispatch_completes_or_faults _

/-! ### The host's writes and the halted core -/

/-- Settles O57: inside its range a host write is a store in the array (R461), outside it nothing. -/
theorem hostWriteStaysInItsRange : Obligations.HostWriteStaysInItsRange := by
  intro s a x v
  by_cases hrange : 0xFF00 ≤ a.toNat ∧ a.toNat ≤ 0xFF7F
  · have hstore : s.hostWrite (a, v) = s.storeCell a v := if_pos (decide_eq_true hrange)
    rw [hstore]
    refine ⟨?_, rfl⟩
    rw [cell_storeCell]
    simp only [hrange, and_true]
  · have hnone : s.hostWrite (a, v) = s := if_neg (mt of_decide_eq_true hrange)
    rw [hnone, if_neg fun h => hrange h.2]
    exact ⟨rfl, rfl⟩

/-- A quiet boundary (log 6) may wake the core and does nothing else. -/
theorem afterHost_eq_wakeFromHalt {s : State} (h : s.host = []) : s.afterHost = s.wakeFromHalt := by
  have hsame : ({ s with host := s.host.tail } : State) = s := by rw [h, List.tail_nil, ← h]
  rw [State.afterHost, hsame, State.nextBoundary, h]
  rfl

/-- Settles O41: the quiet boundary wakes the core exactly where an enabled interrupt is requested. -/
theorem haltedCoreWaitsForARequest : Obligations.HaltedCoreWaitsForARequest := by
  intro s
  refine ⟨step_of_halted, fun hhost hhalted => ⟨fun hquiet => ?_, fun hrequest => ?_⟩⟩
  · have hstays : s.afterHost = s := by
      rw [afterHost_eq_wakeFromHalt hhost, wakeFromHalt_eq, if_neg (not_not.2 hquiet)]
    rw [step_of_halted (hstays.symm ▸ hhalted), hstays]
  · have hwakes : s.afterHost = { s with halted := false } := by
      rw [afterHost_eq_wakeFromHalt hhost, wakeFromHalt_eq, if_pos hrequest]
    rw [step_of_not_halted (by rw [hwakes]), hwakes]

/-! ### Taking an interrupt -/

/-- The mask 0x1F keeps the five interrupt bits (R450). -/
theorem getLsbD_and_interruptMask (m : Byte) (j : Fin 5) : (m &&& 0x1F).getLsbD j.val = m.getLsbD j.val := by
  have hmask : ∀ j : Fin 5, (0x1F : Byte).getLsbD j.val = true := by decide
  rw [BitVec.getLsbD_and, hmask, Bool.and_true]

theorem and_interruptMask_eq_zero_iff (m : Byte) : m &&& 0x1F = 0 ↔ ∀ j : Fin 5, m.getLsbD j.val = false := by
  refine ⟨fun h j => ?_, fun h => BitVec.eq_of_getLsbD_eq fun k hk => ?_⟩
  · rw [← getLsbD_and_interruptMask, h]
    exact BitVec.getLsbD_zero
  · refine Eq.trans ?_ BitVec.getLsbD_zero.symm
    by_cases hfive : k < 5
    · exact (getLsbD_and_interruptMask m ⟨k, hfive⟩).trans (h ⟨k, hfive⟩)
    · have hmask : ∀ k < 8, ¬ k < 5 → (0x1F : Byte).getLsbD k = false := by decide
      rw [BitVec.getLsbD_and, hmask k hk hfive, Bool.and_false]

/-- R451: `lowestBit` is the lowest set bit. -/
theorem lowestBit_eq {m : Byte} {i : Fin 5} (hbelow : ∀ j : Fin 5, j < i → m.getLsbD j.val = false)
    (hset : m.getLsbD i.val = true) : State.lowestBit m = i.val := by
  fin_cases i <;> simp_all [Fin.forall_fin_succ, State.lowestBit]

/-- All that the entry of interrupt `i` does (R452), in the words of the statement. -/
theorem takeInterrupt_eq (s : State) (i : Nat) :
    s.takeInterrupt i =
      let u := (({ s with ime := false } : State).storeCell 0xFF0F
        (s.cell 0xFF0F &&& ~~~(BitVec.ofNat 8 (2 ^ i)))).stackPush s.pc
      { u with pc := BitVec.ofNat 16 (0x40 + 8 * i), halted := false } := by
  have hbit : (1#8 <<< i) = BitVec.ofNat 8 (2 ^ i) :=
    BitVec.eq_of_toNat_eq ((BitVec.toNat_twoPow 8 i).trans (BitVec.toNat_ofNat ..).symm)
  rw [BitVec.ofNat_add, ← hbit]
  rfl

theorem serviceInterrupt_enabled {s : State} (hime : s.ime = true) (h : s.pendingMask ≠ 0) :
    s.serviceInterrupt = s.takeInterrupt (State.lowestBit s.pendingMask) :=
  if_pos (by rw [hime, decide_eq_true h]; rfl)

theorem serviceInterrupt_not_enabled {s : State} (h : s.ime = false ∨ s.pendingMask = 0) : s.serviceInterrupt = s :=
  if_neg (by rcases h with h | h <;> simp [h])

/-- Settles O56: the requested and enabled bits are the five of IF & IE, and `lowestBit` picks the lowest. -/
theorem serviceInterruptTakesTheLowest : Obligations.ServiceInterruptTakesTheLowest := by
  intro s
  refine ⟨fun i hime hbelow hset => ?_, fun h => ?_⟩
  · have hpending : s.pendingMask ≠ 0 := fun h =>
      Bool.false_ne_true (((and_interruptMask_eq_zero_iff _).1 h i).symm.trans hset)
    have hlowest : State.lowestBit s.pendingMask = i.val :=
      lowestBit_eq (fun j hj => (getLsbD_and_interruptMask _ j).trans (hbelow j hj))
        ((getLsbD_and_interruptMask _ i).trans hset)
    rw [serviceInterrupt_enabled hime hpending, hlowest, takeInterrupt_eq]
  · exact serviceInterrupt_not_enabled (h.imp_right (and_interruptMask_eq_zero_iff _).2)

end Sys2Proof.Proofs
